-- ==== Sys2Proof/Word.lean ====
section
/-! DEFINITION. The two value types of the core: Byte and Word (spec 00_scope.md R4). -/

namespace Sys2Proof

/-- R4: a Byte is an unsigned 8-bit integer. -/
abbrev Byte := BitVec 8

/-- R4: a Word is an unsigned 16-bit integer. -/
abbrev Word := BitVec 16

end Sys2Proof
end

