-- ==== Sys2Proof/Machine/Bytes.lean ====
section
/-! DEFINITION. The value primitives of 00_scope.md R5 to R8: the two halves of a Word, the two compositions of a Word
from two bytes (kept as two named operations, as R8 asks), and the signed reading of a Byte. -/

namespace Sys2Proof

/-- R6: `lo(w) = w[7:0]`. -/
def loByte (w : Word) : Byte := w.extractLsb' 0 8

/-- R6: `hi(w) = w[15:8]`. -/
def hiByte (w : Word) : Byte := w.extractLsb' 8 8

/-- R7: `word_le(first, second)`; the byte fetched first is the low byte. -/
def wordLe (first second : Byte) : Word := first.setWidth 16 ||| (second.setWidth 16 <<< 8)

/-- R8 (as 90_conflicts.md C1 corrects it): `make_address(high, low)`; the first argument is the high byte. -/
def makeAddress (high low : Byte) : Word := (high.setWidth 16 <<< 8) ||| low.setWidth 16

/-- R5: the SignedByte a Byte denotes in two's complement. No instruction of this machine uses it. -/
def signedByte (b : Byte) : Int := if b.toNat < 128 then b.toNat else (b.toNat : Int) - 256

end Sys2Proof
end

