-- ==== Sys2Proof/Syntax.lean ====
section
/-! DEFINITION. The instructions: one constructor for each row of spec/opcode_table.json (R69), and one for the 87
unmapped bytes (R70). Names: `ldB_C` is `LD B,C`; `ldAtHL_B` is `LD (HL),B`; `ldA_atHLinc` is `LD A,(HL+)`; `ldhAtA8_A`
is `LDH (a8),A`. A constructor's argument is the instruction's immediate (R65 to R67). -/

namespace Sys2Proof

/-- R69, R70: every opcode byte is one of these. -/
inductive Instr where
  /-- 0x01 `LD BC,d16`, R151. -/
  | ldBC_d16 (d16 : Word)
  /-- 0x02 `LD (BC),A`, R130. -/
  | ldAtBC_A
  /-- 0x06 `LD B,d8`, R122. -/
  | ldB_d8 (d8 : Byte)
  /-- 0x0A `LD A,(BC)`, R124. -/
  | ldA_atBC
  /-- 0x0E `LD C,d8`, R122. -/
  | ldC_d8 (d8 : Byte)
  /-- 0x11 `LD DE,d16`, R151. -/
  | ldDE_d16 (d16 : Word)
  /-- 0x12 `LD (DE),A`, R131. -/
  | ldAtDE_A
  /-- 0x16 `LD D,d8`, R122. -/
  | ldD_d8 (d8 : Byte)
  /-- 0x1A `LD A,(DE)`, R125. -/
  | ldA_atDE
  /-- 0x1E `LD E,d8`, R122. -/
  | ldE_d8 (d8 : Byte)
  /-- 0x21 `LD HL,d16`, R151. -/
  | ldHL_d16 (d16 : Word)
  /-- 0x22 `LD (HL+),A`, R135. -/
  | ldAtHLinc_A
  /-- 0x26 `LD H,d8`, R122. -/
  | ldH_d8 (d8 : Byte)
  /-- 0x27 `DAA`, R185. -/
  | daa
  /-- 0x2A `LD A,(HL+)`, R136. -/
  | ldA_atHLinc
  /-- 0x2E `LD L,d8`, R122. -/
  | ldL_d8 (d8 : Byte)
  /-- 0x31 `LD SP,d16`, R151. -/
  | ldSP_d16 (d16 : Word)
  /-- 0x32 `LD (HL-),A`, R137. -/
  | ldAtHLdec_A
  /-- 0x3A `LD A,(HL-)`, R138. -/
  | ldA_atHLdec
  /-- 0x3E `LD A,d8`, R122. -/
  | ldA_d8 (d8 : Byte)
  /-- 0x40 `LD B,B`, R121. -/
  | ldB_B
  /-- 0x41 `LD B,C`, R121. -/
  | ldB_C
  /-- 0x42 `LD B,D`, R121. -/
  | ldB_D
  /-- 0x43 `LD B,E`, R121. -/
  | ldB_E
  /-- 0x44 `LD B,H`, R121. -/
  | ldB_H
  /-- 0x45 `LD B,L`, R121. -/
  | ldB_L
  /-- 0x46 `LD B,(HL)`, R123. -/
  | ldB_atHL
  /-- 0x47 `LD B,A`, R121. -/
  | ldB_A
  /-- 0x48 `LD C,B`, R121. -/
  | ldC_B
  /-- 0x49 `LD C,C`, R121. -/
  | ldC_C
  /-- 0x4A `LD C,D`, R121. -/
  | ldC_D
  /-- 0x4B `LD C,E`, R121. -/
  | ldC_E
  /-- 0x4C `LD C,H`, R121. -/
  | ldC_H
  /-- 0x4D `LD C,L`, R121. -/
  | ldC_L
  /-- 0x4E `LD C,(HL)`, R123. -/
  | ldC_atHL
  /-- 0x4F `LD C,A`, R121. -/
  | ldC_A
  /-- 0x50 `LD D,B`, R121. -/
  | ldD_B
  /-- 0x51 `LD D,C`, R121. -/
  | ldD_C
  /-- 0x52 `LD D,D`, R121. -/
  | ldD_D
  /-- 0x53 `LD D,E`, R121. -/
  | ldD_E
  /-- 0x54 `LD D,H`, R121. -/
  | ldD_H
  /-- 0x55 `LD D,L`, R121. -/
  | ldD_L
  /-- 0x56 `LD D,(HL)`, R123. -/
  | ldD_atHL
  /-- 0x57 `LD D,A`, R121. -/
  | ldD_A
  /-- 0x58 `LD E,B`, R121. -/
  | ldE_B
  /-- 0x59 `LD E,C`, R121. -/
  | ldE_C
  /-- 0x5A `LD E,D`, R121. -/
  | ldE_D
  /-- 0x5B `LD E,E`, R121. -/
  | ldE_E
  /-- 0x5C `LD E,H`, R121. -/
  | ldE_H
  /-- 0x5D `LD E,L`, R121. -/
  | ldE_L
  /-- 0x5E `LD E,(HL)`, R123. -/
  | ldE_atHL
  /-- 0x5F `LD E,A`, R121. -/
  | ldE_A
  /-- 0x60 `LD H,B`, R121. -/
  | ldH_B
  /-- 0x61 `LD H,C`, R121. -/
  | ldH_C
  /-- 0x62 `LD H,D`, R121. -/
  | ldH_D
  /-- 0x63 `LD H,E`, R121. -/
  | ldH_E
  /-- 0x64 `LD H,H`, R121. -/
  | ldH_H
  /-- 0x65 `LD H,L`, R121. -/
  | ldH_L
  /-- 0x66 `LD H,(HL)`, R123. -/
  | ldH_atHL
  /-- 0x67 `LD H,A`, R121. -/
  | ldH_A
  /-- 0x68 `LD L,B`, R121. -/
  | ldL_B
  /-- 0x69 `LD L,C`, R121. -/
  | ldL_C
  /-- 0x6A `LD L,D`, R121. -/
  | ldL_D
  /-- 0x6B `LD L,E`, R121. -/
  | ldL_E
  /-- 0x6C `LD L,H`, R121. -/
  | ldL_H
  /-- 0x6D `LD L,L`, R121. -/
  | ldL_L
  /-- 0x6E `LD L,(HL)`, R123. -/
  | ldL_atHL
  /-- 0x6F `LD L,A`, R121. -/
  | ldL_A
  /-- 0x70 `LD (HL),B`, R129. -/
  | ldAtHL_B
  /-- 0x71 `LD (HL),C`, R129. -/
  | ldAtHL_C
  /-- 0x72 `LD (HL),D`, R129. -/
  | ldAtHL_D
  /-- 0x73 `LD (HL),E`, R129. -/
  | ldAtHL_E
  /-- 0x74 `LD (HL),H`, R129. -/
  | ldAtHL_H
  /-- 0x75 `LD (HL),L`, R129. -/
  | ldAtHL_L
  /-- 0x77 `LD (HL),A`, R129. -/
  | ldAtHL_A
  /-- 0x78 `LD A,B`, R121. -/
  | ldA_B
  /-- 0x79 `LD A,C`, R121. -/
  | ldA_C
  /-- 0x7A `LD A,D`, R121. -/
  | ldA_D
  /-- 0x7B `LD A,E`, R121. -/
  | ldA_E
  /-- 0x7C `LD A,H`, R121. -/
  | ldA_H
  /-- 0x7D `LD A,L`, R121. -/
  | ldA_L
  /-- 0x7E `LD A,(HL)`, R123. -/
  | ldA_atHL
  /-- 0x7F `LD A,A`, R121. -/
  | ldA_A
  /-- 0x80 `ADD A,B`, R161. -/
  | addA_B
  /-- 0x81 `ADD A,C`, R161. -/
  | addA_C
  /-- 0x82 `ADD A,D`, R161. -/
  | addA_D
  /-- 0x83 `ADD A,E`, R161. -/
  | addA_E
  /-- 0x84 `ADD A,H`, R161. -/
  | addA_H
  /-- 0x85 `ADD A,L`, R161. -/
  | addA_L
  /-- 0x86 `ADD A,(HL)`, R162. -/
  | addA_atHL
  /-- 0x87 `ADD A,A`, R161. -/
  | addA_A
  /-- 0x88 `ADC A,B`, R164. -/
  | adcA_B
  /-- 0x89 `ADC A,C`, R164. -/
  | adcA_C
  /-- 0x8A `ADC A,D`, R164. -/
  | adcA_D
  /-- 0x8B `ADC A,E`, R164. -/
  | adcA_E
  /-- 0x8C `ADC A,H`, R164. -/
  | adcA_H
  /-- 0x8D `ADC A,L`, R164. -/
  | adcA_L
  /-- 0x8E `ADC A,(HL)`, R165. -/
  | adcA_atHL
  /-- 0x8F `ADC A,A`, R164. -/
  | adcA_A
  /-- 0x90 `SUB A,B`, R167. -/
  | subA_B
  /-- 0x91 `SUB A,C`, R167. -/
  | subA_C
  /-- 0x92 `SUB A,D`, R167. -/
  | subA_D
  /-- 0x93 `SUB A,E`, R167. -/
  | subA_E
  /-- 0x94 `SUB A,H`, R167. -/
  | subA_H
  /-- 0x95 `SUB A,L`, R167. -/
  | subA_L
  /-- 0x96 `SUB A,(HL)`, R168. -/
  | subA_atHL
  /-- 0x97 `SUB A,A`, R167. -/
  | subA_A
  /-- 0x98 `SBC A,B`, R170. -/
  | sbcA_B
  /-- 0x99 `SBC A,C`, R170. -/
  | sbcA_C
  /-- 0x9A `SBC A,D`, R170. -/
  | sbcA_D
  /-- 0x9B `SBC A,E`, R170. -/
  | sbcA_E
  /-- 0x9C `SBC A,H`, R170. -/
  | sbcA_H
  /-- 0x9D `SBC A,L`, R170. -/
  | sbcA_L
  /-- 0x9E `SBC A,(HL)`, R171. -/
  | sbcA_atHL
  /-- 0x9F `SBC A,A`, R170. -/
  | sbcA_A
  /-- 0xA0 `AND A,B`, R173. -/
  | andA_B
  /-- 0xA1 `AND A,C`, R173. -/
  | andA_C
  /-- 0xA2 `AND A,D`, R173. -/
  | andA_D
  /-- 0xA3 `AND A,E`, R173. -/
  | andA_E
  /-- 0xA4 `AND A,H`, R173. -/
  | andA_H
  /-- 0xA5 `AND A,L`, R173. -/
  | andA_L
  /-- 0xA6 `AND A,(HL)`, R174. -/
  | andA_atHL
  /-- 0xA7 `AND A,A`, R173. -/
  | andA_A
  /-- 0xA8 `XOR A,B`, R176. -/
  | xorA_B
  /-- 0xA9 `XOR A,C`, R176. -/
  | xorA_C
  /-- 0xAA `XOR A,D`, R176. -/
  | xorA_D
  /-- 0xAB `XOR A,E`, R176. -/
  | xorA_E
  /-- 0xAC `XOR A,H`, R176. -/
  | xorA_H
  /-- 0xAD `XOR A,L`, R176. -/
  | xorA_L
  /-- 0xAE `XOR A,(HL)`, R177. -/
  | xorA_atHL
  /-- 0xAF `XOR A,A`, R176. -/
  | xorA_A
  /-- 0xB0 `OR A,B`, R179. -/
  | orA_B
  /-- 0xB1 `OR A,C`, R179. -/
  | orA_C
  /-- 0xB2 `OR A,D`, R179. -/
  | orA_D
  /-- 0xB3 `OR A,E`, R179. -/
  | orA_E
  /-- 0xB4 `OR A,H`, R179. -/
  | orA_H
  /-- 0xB5 `OR A,L`, R179. -/
  | orA_L
  /-- 0xB6 `OR A,(HL)`, R180. -/
  | orA_atHL
  /-- 0xB7 `OR A,A`, R179. -/
  | orA_A
  /-- 0xB8 `CP A,B`, R182. -/
  | cpA_B
  /-- 0xB9 `CP A,C`, R182. -/
  | cpA_C
  /-- 0xBA `CP A,D`, R182. -/
  | cpA_D
  /-- 0xBB `CP A,E`, R182. -/
  | cpA_E
  /-- 0xBC `CP A,H`, R182. -/
  | cpA_H
  /-- 0xBD `CP A,L`, R182. -/
  | cpA_L
  /-- 0xBE `CP A,(HL)`, R183. -/
  | cpA_atHL
  /-- 0xBF `CP A,A`, R182. -/
  | cpA_A
  /-- 0xC1 `POP BC`, R154. -/
  | popBC
  /-- 0xC5 `PUSH BC`, R152. -/
  | pushBC
  /-- 0xC6 `ADD A,d8`, R163. -/
  | addA_d8 (d8 : Byte)
  /-- 0xCE `ADC A,d8`, R166. -/
  | adcA_d8 (d8 : Byte)
  /-- 0xD1 `POP DE`, R154. -/
  | popDE
  /-- 0xD5 `PUSH DE`, R152. -/
  | pushDE
  /-- 0xD6 `SUB A,d8`, R169. -/
  | subA_d8 (d8 : Byte)
  /-- 0xDE `SBC A,d8`, R172. -/
  | sbcA_d8 (d8 : Byte)
  /-- 0xE0 `LDH (a8),A`, R133. -/
  | ldhAtA8_A (a8 : Byte)
  /-- 0xE1 `POP HL`, R154. -/
  | popHL
  /-- 0xE2 `LD (C),A`, R134. -/
  | ldAtC_A
  /-- 0xE5 `PUSH HL`, R152. -/
  | pushHL
  /-- 0xE6 `AND A,d8`, R175. -/
  | andA_d8 (d8 : Byte)
  /-- 0xEA `LD (a16),A`, R132. -/
  | ldAtA16_A (a16 : Word)
  /-- 0xEE `XOR A,d8`, R178. -/
  | xorA_d8 (d8 : Byte)
  /-- 0xF0 `LDH A,(a8)`, R127. -/
  | ldhA_atA8 (a8 : Byte)
  /-- 0xF1 `POP AF`, R155. -/
  | popAF
  /-- 0xF2 `LD A,(C)`, R128. -/
  | ldA_atC
  /-- 0xF5 `PUSH AF`, R153. -/
  | pushAF
  /-- 0xF6 `OR A,d8`, R181. -/
  | orA_d8 (d8 : Byte)
  /-- 0xFA `LD A,(a16)`, R126. -/
  | ldA_atA16 (a16 : Word)
  /-- 0xFE `CP A,d8`, R184. -/
  | cpA_d8 (d8 : Byte)
  /-- Any of the 87 bytes of R70, which have no entry in the dispatch table; R201. -/
  | unmapped (op : Byte)
deriving DecidableEq, Repr

end Sys2Proof
end

