-- ==== Sys2Proof/Machine/Form.lean ====
section
/-! DEFINITION. The operands of R25 and R26 and the instruction forms of R69's pattern table: what kind of instruction
each constructor is, and with which operands. The encoder, the cost table and the statements speak of forms. -/

namespace Sys2Proof

/-- R25: the seven 8-bit registers. -/
inductive R8 where
  | b | c | d | e | h | l | a
deriving DecidableEq, Repr

/-- R16: the three register pairs, the pushed and popped pairs of R152 and R154. -/
inductive Pair where
  | bc | de | hl
deriving DecidableEq, Repr

/-- R26: `R16[p]`, the destinations of `LD rr,d16`. -/
inductive Reg16 where
  | bc | de | hl | sp
deriving DecidableEq, Repr

/-- R64: the eight ALU operations on the accumulator. -/
inductive AluOp where
  | add | adc | sub | sbc | and | xor | or | cp
deriving DecidableEq, Repr

/-- R160(a): the second operand of an ALU instruction. -/
inductive Src where
  | reg (r : R8)
  | atHL
  | imm (d8 : Byte)
deriving DecidableEq, Repr

/-- The data addresses of R124 to R128 and R130 to R134. -/
inductive Mode where
  /-- `(BC)`. -/
  | bc
  /-- `(DE)`. -/
  | de
  /-- `(a16)`. -/
  | abs (a16 : Word)
  /-- `(a8)`, the high page. -/
  | high (a8 : Byte)
  /-- `(C)`, the high page. -/
  | highC
deriving DecidableEq, Repr

/-- R135 to R138: what happens to `HL` after the access. -/
inductive Post where
  | inc | dec
deriving DecidableEq, Repr

/-- The instruction forms of R69's pattern table. -/
inductive Form where
  /-- `LD r,r'`, R121. -/
  | copy (dst src : R8)
  /-- `LD r,d8`, R122. -/
  | loadImm (dst : R8) (d8 : Byte)
  /-- `LD r,(HL)`, R123. -/
  | loadHL (dst : R8)
  /-- `LD A,(..)` and `LDH A,(a8)`, R124 to R128. -/
  | load (m : Mode)
  /-- `LD (HL),r`, R129. -/
  | storeHL (src : R8)
  /-- `LD (..),A` and `LDH (a8),A`, R130 to R134. -/
  | store (m : Mode)
  /-- `LD (HL+),A` and `LD (HL-),A`, R135 and R137. -/
  | storePost (p : Post)
  /-- `LD A,(HL+)` and `LD A,(HL-)`, R136 and R138. -/
  | loadPost (p : Post)
  /-- `LD rr,d16`, R151. -/
  | load16 (dst : Reg16) (d16 : Word)
  /-- `PUSH rr`, R152. -/
  | push (src : Pair)
  /-- `PUSH AF`, R153. -/
  | pushAF
  /-- `POP rr`, R154. -/
  | pop (dst : Pair)
  /-- `POP AF`, R155. -/
  | popAF
  /-- `ADD` to `CP` with a register, `(HL)` or immediate source, R161 to R184. -/
  | alu (op : AluOp) (src : Src)
  /-- `DAA`, R185. -/
  | daa
  /-- A byte with no table entry, R70 and R201. -/
  | unmapped (op : Byte)
deriving DecidableEq, Repr

/-- The form of each instruction, in the table's order. -/
def Instr.form : Instr → Form
  | .ldBC_d16 d16 => .load16 .bc d16
  | .ldAtBC_A => .store .bc
  | .ldB_d8 d8 => .loadImm .b d8
  | .ldA_atBC => .load .bc
  | .ldC_d8 d8 => .loadImm .c d8
  | .ldDE_d16 d16 => .load16 .de d16
  | .ldAtDE_A => .store .de
  | .ldD_d8 d8 => .loadImm .d d8
  | .ldA_atDE => .load .de
  | .ldE_d8 d8 => .loadImm .e d8
  | .ldHL_d16 d16 => .load16 .hl d16
  | .ldAtHLinc_A => .storePost .inc
  | .ldH_d8 d8 => .loadImm .h d8
  | .daa => .daa
  | .ldA_atHLinc => .loadPost .inc
  | .ldL_d8 d8 => .loadImm .l d8
  | .ldSP_d16 d16 => .load16 .sp d16
  | .ldAtHLdec_A => .storePost .dec
  | .ldA_atHLdec => .loadPost .dec
  | .ldA_d8 d8 => .loadImm .a d8
  | .ldB_B => .copy .b .b
  | .ldB_C => .copy .b .c
  | .ldB_D => .copy .b .d
  | .ldB_E => .copy .b .e
  | .ldB_H => .copy .b .h
  | .ldB_L => .copy .b .l
  | .ldB_atHL => .loadHL .b
  | .ldB_A => .copy .b .a
  | .ldC_B => .copy .c .b
  | .ldC_C => .copy .c .c
  | .ldC_D => .copy .c .d
  | .ldC_E => .copy .c .e
  | .ldC_H => .copy .c .h
  | .ldC_L => .copy .c .l
  | .ldC_atHL => .loadHL .c
  | .ldC_A => .copy .c .a
  | .ldD_B => .copy .d .b
  | .ldD_C => .copy .d .c
  | .ldD_D => .copy .d .d
  | .ldD_E => .copy .d .e
  | .ldD_H => .copy .d .h
  | .ldD_L => .copy .d .l
  | .ldD_atHL => .loadHL .d
  | .ldD_A => .copy .d .a
  | .ldE_B => .copy .e .b
  | .ldE_C => .copy .e .c
  | .ldE_D => .copy .e .d
  | .ldE_E => .copy .e .e
  | .ldE_H => .copy .e .h
  | .ldE_L => .copy .e .l
  | .ldE_atHL => .loadHL .e
  | .ldE_A => .copy .e .a
  | .ldH_B => .copy .h .b
  | .ldH_C => .copy .h .c
  | .ldH_D => .copy .h .d
  | .ldH_E => .copy .h .e
  | .ldH_H => .copy .h .h
  | .ldH_L => .copy .h .l
  | .ldH_atHL => .loadHL .h
  | .ldH_A => .copy .h .a
  | .ldL_B => .copy .l .b
  | .ldL_C => .copy .l .c
  | .ldL_D => .copy .l .d
  | .ldL_E => .copy .l .e
  | .ldL_H => .copy .l .h
  | .ldL_L => .copy .l .l
  | .ldL_atHL => .loadHL .l
  | .ldL_A => .copy .l .a
  | .ldAtHL_B => .storeHL .b
  | .ldAtHL_C => .storeHL .c
  | .ldAtHL_D => .storeHL .d
  | .ldAtHL_E => .storeHL .e
  | .ldAtHL_H => .storeHL .h
  | .ldAtHL_L => .storeHL .l
  | .ldAtHL_A => .storeHL .a
  | .ldA_B => .copy .a .b
  | .ldA_C => .copy .a .c
  | .ldA_D => .copy .a .d
  | .ldA_E => .copy .a .e
  | .ldA_H => .copy .a .h
  | .ldA_L => .copy .a .l
  | .ldA_atHL => .loadHL .a
  | .ldA_A => .copy .a .a
  | .addA_B => .alu .add (.reg .b)
  | .addA_C => .alu .add (.reg .c)
  | .addA_D => .alu .add (.reg .d)
  | .addA_E => .alu .add (.reg .e)
  | .addA_H => .alu .add (.reg .h)
  | .addA_L => .alu .add (.reg .l)
  | .addA_atHL => .alu .add .atHL
  | .addA_A => .alu .add (.reg .a)
  | .adcA_B => .alu .adc (.reg .b)
  | .adcA_C => .alu .adc (.reg .c)
  | .adcA_D => .alu .adc (.reg .d)
  | .adcA_E => .alu .adc (.reg .e)
  | .adcA_H => .alu .adc (.reg .h)
  | .adcA_L => .alu .adc (.reg .l)
  | .adcA_atHL => .alu .adc .atHL
  | .adcA_A => .alu .adc (.reg .a)
  | .subA_B => .alu .sub (.reg .b)
  | .subA_C => .alu .sub (.reg .c)
  | .subA_D => .alu .sub (.reg .d)
  | .subA_E => .alu .sub (.reg .e)
  | .subA_H => .alu .sub (.reg .h)
  | .subA_L => .alu .sub (.reg .l)
  | .subA_atHL => .alu .sub .atHL
  | .subA_A => .alu .sub (.reg .a)
  | .sbcA_B => .alu .sbc (.reg .b)
  | .sbcA_C => .alu .sbc (.reg .c)
  | .sbcA_D => .alu .sbc (.reg .d)
  | .sbcA_E => .alu .sbc (.reg .e)
  | .sbcA_H => .alu .sbc (.reg .h)
  | .sbcA_L => .alu .sbc (.reg .l)
  | .sbcA_atHL => .alu .sbc .atHL
  | .sbcA_A => .alu .sbc (.reg .a)
  | .andA_B => .alu .and (.reg .b)
  | .andA_C => .alu .and (.reg .c)
  | .andA_D => .alu .and (.reg .d)
  | .andA_E => .alu .and (.reg .e)
  | .andA_H => .alu .and (.reg .h)
  | .andA_L => .alu .and (.reg .l)
  | .andA_atHL => .alu .and .atHL
  | .andA_A => .alu .and (.reg .a)
  | .xorA_B => .alu .xor (.reg .b)
  | .xorA_C => .alu .xor (.reg .c)
  | .xorA_D => .alu .xor (.reg .d)
  | .xorA_E => .alu .xor (.reg .e)
  | .xorA_H => .alu .xor (.reg .h)
  | .xorA_L => .alu .xor (.reg .l)
  | .xorA_atHL => .alu .xor .atHL
  | .xorA_A => .alu .xor (.reg .a)
  | .orA_B => .alu .or (.reg .b)
  | .orA_C => .alu .or (.reg .c)
  | .orA_D => .alu .or (.reg .d)
  | .orA_E => .alu .or (.reg .e)
  | .orA_H => .alu .or (.reg .h)
  | .orA_L => .alu .or (.reg .l)
  | .orA_atHL => .alu .or .atHL
  | .orA_A => .alu .or (.reg .a)
  | .cpA_B => .alu .cp (.reg .b)
  | .cpA_C => .alu .cp (.reg .c)
  | .cpA_D => .alu .cp (.reg .d)
  | .cpA_E => .alu .cp (.reg .e)
  | .cpA_H => .alu .cp (.reg .h)
  | .cpA_L => .alu .cp (.reg .l)
  | .cpA_atHL => .alu .cp .atHL
  | .cpA_A => .alu .cp (.reg .a)
  | .popBC => .pop .bc
  | .pushBC => .push .bc
  | .addA_d8 d8 => .alu .add (.imm d8)
  | .adcA_d8 d8 => .alu .adc (.imm d8)
  | .popDE => .pop .de
  | .pushDE => .push .de
  | .subA_d8 d8 => .alu .sub (.imm d8)
  | .sbcA_d8 d8 => .alu .sbc (.imm d8)
  | .ldhAtA8_A a8 => .store (.high a8)
  | .popHL => .pop .hl
  | .ldAtC_A => .store .highC
  | .pushHL => .push .hl
  | .andA_d8 d8 => .alu .and (.imm d8)
  | .ldAtA16_A a16 => .store (.abs a16)
  | .xorA_d8 d8 => .alu .xor (.imm d8)
  | .ldhA_atA8 a8 => .load (.high a8)
  | .popAF => .popAF
  | .ldA_atC => .load .highC
  | .pushAF => .pushAF
  | .orA_d8 d8 => .alu .or (.imm d8)
  | .ldA_atA16 a16 => .load (.abs a16)
  | .cpA_d8 d8 => .alu .cp (.imm d8)
  | .unmapped op => .unmapped op

end Sys2Proof
end

