-- ==== Sys2Proof/Decode.lean ====
section
/-! DEFINITION. The dispatch table as the grid of R69, the decoder over it (total; it rejects by name only a program
text that ends inside an instruction), and the encoder, written from R69's OTHER table, the bit patterns with the codes
of R62 to R64. That the two agree is a statement (Obligations.DecodeInvertsEncode). -/

namespace Sys2Proof

/-- R105, R60: a table entry: the instruction, or how the immediate that follows the opcode completes it. -/
inductive Handler where
  /-- Format OP: no immediate. -/
  | implied (i : Instr)
  /-- Formats OP_D8 and OP_A8: one immediate byte. -/
  | imm8 (k : Byte → Instr)
  /-- Formats OP_D16 and OP_A16: a Word, low byte first. -/
  | imm16 (k : Word → Instr)

/-- R69, row 0x: the entry by the low nibble of the opcode. -/
def tableRow0 : BitVec 4 → Option Handler
  | 0x1#4 => some (.imm16 .ldBC_d16)
  | 0x2#4 => some (.implied .ldAtBC_A)
  | 0x6#4 => some (.imm8 .ldB_d8)
  | 0xA#4 => some (.implied .ldA_atBC)
  | 0xE#4 => some (.imm8 .ldC_d8)
  | _ => none

/-- R69, row 1x: the entry by the low nibble of the opcode. -/
def tableRow1 : BitVec 4 → Option Handler
  | 0x1#4 => some (.imm16 .ldDE_d16)
  | 0x2#4 => some (.implied .ldAtDE_A)
  | 0x6#4 => some (.imm8 .ldD_d8)
  | 0xA#4 => some (.implied .ldA_atDE)
  | 0xE#4 => some (.imm8 .ldE_d8)
  | _ => none

/-- R69, row 2x: the entry by the low nibble of the opcode. -/
def tableRow2 : BitVec 4 → Option Handler
  | 0x1#4 => some (.imm16 .ldHL_d16)
  | 0x2#4 => some (.implied .ldAtHLinc_A)
  | 0x6#4 => some (.imm8 .ldH_d8)
  | 0x7#4 => some (.implied .daa)
  | 0xA#4 => some (.implied .ldA_atHLinc)
  | 0xE#4 => some (.imm8 .ldL_d8)
  | _ => none

/-- R69, row 3x: the entry by the low nibble of the opcode. -/
def tableRow3 : BitVec 4 → Option Handler
  | 0x1#4 => some (.imm16 .ldSP_d16)
  | 0x2#4 => some (.implied .ldAtHLdec_A)
  | 0xA#4 => some (.implied .ldA_atHLdec)
  | 0xE#4 => some (.imm8 .ldA_d8)
  | _ => none

/-- R69, row 4x: the entry by the low nibble of the opcode. -/
def tableRow4 : BitVec 4 → Option Handler
  | 0x0#4 => some (.implied .ldB_B)
  | 0x1#4 => some (.implied .ldB_C)
  | 0x2#4 => some (.implied .ldB_D)
  | 0x3#4 => some (.implied .ldB_E)
  | 0x4#4 => some (.implied .ldB_H)
  | 0x5#4 => some (.implied .ldB_L)
  | 0x6#4 => some (.implied .ldB_atHL)
  | 0x7#4 => some (.implied .ldB_A)
  | 0x8#4 => some (.implied .ldC_B)
  | 0x9#4 => some (.implied .ldC_C)
  | 0xA#4 => some (.implied .ldC_D)
  | 0xB#4 => some (.implied .ldC_E)
  | 0xC#4 => some (.implied .ldC_H)
  | 0xD#4 => some (.implied .ldC_L)
  | 0xE#4 => some (.implied .ldC_atHL)
  | _ => some (.implied .ldC_A)

/-- R69, row 5x: the entry by the low nibble of the opcode. -/
def tableRow5 : BitVec 4 → Option Handler
  | 0x0#4 => some (.implied .ldD_B)
  | 0x1#4 => some (.implied .ldD_C)
  | 0x2#4 => some (.implied .ldD_D)
  | 0x3#4 => some (.implied .ldD_E)
  | 0x4#4 => some (.implied .ldD_H)
  | 0x5#4 => some (.implied .ldD_L)
  | 0x6#4 => some (.implied .ldD_atHL)
  | 0x7#4 => some (.implied .ldD_A)
  | 0x8#4 => some (.implied .ldE_B)
  | 0x9#4 => some (.implied .ldE_C)
  | 0xA#4 => some (.implied .ldE_D)
  | 0xB#4 => some (.implied .ldE_E)
  | 0xC#4 => some (.implied .ldE_H)
  | 0xD#4 => some (.implied .ldE_L)
  | 0xE#4 => some (.implied .ldE_atHL)
  | _ => some (.implied .ldE_A)

/-- R69, row 6x: the entry by the low nibble of the opcode. -/
def tableRow6 : BitVec 4 → Option Handler
  | 0x0#4 => some (.implied .ldH_B)
  | 0x1#4 => some (.implied .ldH_C)
  | 0x2#4 => some (.implied .ldH_D)
  | 0x3#4 => some (.implied .ldH_E)
  | 0x4#4 => some (.implied .ldH_H)
  | 0x5#4 => some (.implied .ldH_L)
  | 0x6#4 => some (.implied .ldH_atHL)
  | 0x7#4 => some (.implied .ldH_A)
  | 0x8#4 => some (.implied .ldL_B)
  | 0x9#4 => some (.implied .ldL_C)
  | 0xA#4 => some (.implied .ldL_D)
  | 0xB#4 => some (.implied .ldL_E)
  | 0xC#4 => some (.implied .ldL_H)
  | 0xD#4 => some (.implied .ldL_L)
  | 0xE#4 => some (.implied .ldL_atHL)
  | _ => some (.implied .ldL_A)

/-- R69, row 7x: the entry by the low nibble of the opcode. -/
def tableRow7 : BitVec 4 → Option Handler
  | 0x0#4 => some (.implied .ldAtHL_B)
  | 0x1#4 => some (.implied .ldAtHL_C)
  | 0x2#4 => some (.implied .ldAtHL_D)
  | 0x3#4 => some (.implied .ldAtHL_E)
  | 0x4#4 => some (.implied .ldAtHL_H)
  | 0x5#4 => some (.implied .ldAtHL_L)
  | 0x7#4 => some (.implied .ldAtHL_A)
  | 0x8#4 => some (.implied .ldA_B)
  | 0x9#4 => some (.implied .ldA_C)
  | 0xA#4 => some (.implied .ldA_D)
  | 0xB#4 => some (.implied .ldA_E)
  | 0xC#4 => some (.implied .ldA_H)
  | 0xD#4 => some (.implied .ldA_L)
  | 0xE#4 => some (.implied .ldA_atHL)
  | 0xF#4 => some (.implied .ldA_A)
  | _ => none

/-- R69, row 8x: the entry by the low nibble of the opcode. -/
def tableRow8 : BitVec 4 → Option Handler
  | 0x0#4 => some (.implied .addA_B)
  | 0x1#4 => some (.implied .addA_C)
  | 0x2#4 => some (.implied .addA_D)
  | 0x3#4 => some (.implied .addA_E)
  | 0x4#4 => some (.implied .addA_H)
  | 0x5#4 => some (.implied .addA_L)
  | 0x6#4 => some (.implied .addA_atHL)
  | 0x7#4 => some (.implied .addA_A)
  | 0x8#4 => some (.implied .adcA_B)
  | 0x9#4 => some (.implied .adcA_C)
  | 0xA#4 => some (.implied .adcA_D)
  | 0xB#4 => some (.implied .adcA_E)
  | 0xC#4 => some (.implied .adcA_H)
  | 0xD#4 => some (.implied .adcA_L)
  | 0xE#4 => some (.implied .adcA_atHL)
  | _ => some (.implied .adcA_A)

/-- R69, row 9x: the entry by the low nibble of the opcode. -/
def tableRow9 : BitVec 4 → Option Handler
  | 0x0#4 => some (.implied .subA_B)
  | 0x1#4 => some (.implied .subA_C)
  | 0x2#4 => some (.implied .subA_D)
  | 0x3#4 => some (.implied .subA_E)
  | 0x4#4 => some (.implied .subA_H)
  | 0x5#4 => some (.implied .subA_L)
  | 0x6#4 => some (.implied .subA_atHL)
  | 0x7#4 => some (.implied .subA_A)
  | 0x8#4 => some (.implied .sbcA_B)
  | 0x9#4 => some (.implied .sbcA_C)
  | 0xA#4 => some (.implied .sbcA_D)
  | 0xB#4 => some (.implied .sbcA_E)
  | 0xC#4 => some (.implied .sbcA_H)
  | 0xD#4 => some (.implied .sbcA_L)
  | 0xE#4 => some (.implied .sbcA_atHL)
  | _ => some (.implied .sbcA_A)

/-- R69, row Ax: the entry by the low nibble of the opcode. -/
def tableRowA : BitVec 4 → Option Handler
  | 0x0#4 => some (.implied .andA_B)
  | 0x1#4 => some (.implied .andA_C)
  | 0x2#4 => some (.implied .andA_D)
  | 0x3#4 => some (.implied .andA_E)
  | 0x4#4 => some (.implied .andA_H)
  | 0x5#4 => some (.implied .andA_L)
  | 0x6#4 => some (.implied .andA_atHL)
  | 0x7#4 => some (.implied .andA_A)
  | 0x8#4 => some (.implied .xorA_B)
  | 0x9#4 => some (.implied .xorA_C)
  | 0xA#4 => some (.implied .xorA_D)
  | 0xB#4 => some (.implied .xorA_E)
  | 0xC#4 => some (.implied .xorA_H)
  | 0xD#4 => some (.implied .xorA_L)
  | 0xE#4 => some (.implied .xorA_atHL)
  | _ => some (.implied .xorA_A)

/-- R69, row Bx: the entry by the low nibble of the opcode. -/
def tableRowB : BitVec 4 → Option Handler
  | 0x0#4 => some (.implied .orA_B)
  | 0x1#4 => some (.implied .orA_C)
  | 0x2#4 => some (.implied .orA_D)
  | 0x3#4 => some (.implied .orA_E)
  | 0x4#4 => some (.implied .orA_H)
  | 0x5#4 => some (.implied .orA_L)
  | 0x6#4 => some (.implied .orA_atHL)
  | 0x7#4 => some (.implied .orA_A)
  | 0x8#4 => some (.implied .cpA_B)
  | 0x9#4 => some (.implied .cpA_C)
  | 0xA#4 => some (.implied .cpA_D)
  | 0xB#4 => some (.implied .cpA_E)
  | 0xC#4 => some (.implied .cpA_H)
  | 0xD#4 => some (.implied .cpA_L)
  | 0xE#4 => some (.implied .cpA_atHL)
  | _ => some (.implied .cpA_A)

/-- R69, row Cx: the entry by the low nibble of the opcode. -/
def tableRowC : BitVec 4 → Option Handler
  | 0x1#4 => some (.implied .popBC)
  | 0x5#4 => some (.implied .pushBC)
  | 0x6#4 => some (.imm8 .addA_d8)
  | 0xE#4 => some (.imm8 .adcA_d8)
  | _ => none

/-- R69, row Dx: the entry by the low nibble of the opcode. -/
def tableRowD : BitVec 4 → Option Handler
  | 0x1#4 => some (.implied .popDE)
  | 0x5#4 => some (.implied .pushDE)
  | 0x6#4 => some (.imm8 .subA_d8)
  | 0xE#4 => some (.imm8 .sbcA_d8)
  | _ => none

/-- R69, row Ex: the entry by the low nibble of the opcode. -/
def tableRowE : BitVec 4 → Option Handler
  | 0x0#4 => some (.imm8 .ldhAtA8_A)
  | 0x1#4 => some (.implied .popHL)
  | 0x2#4 => some (.implied .ldAtC_A)
  | 0x5#4 => some (.implied .pushHL)
  | 0x6#4 => some (.imm8 .andA_d8)
  | 0xA#4 => some (.imm16 .ldAtA16_A)
  | 0xE#4 => some (.imm8 .xorA_d8)
  | _ => none

/-- R69, row Fx: the entry by the low nibble of the opcode. -/
def tableRowF : BitVec 4 → Option Handler
  | 0x0#4 => some (.imm8 .ldhA_atA8)
  | 0x1#4 => some (.implied .popAF)
  | 0x2#4 => some (.implied .ldA_atC)
  | 0x5#4 => some (.implied .pushAF)
  | 0x6#4 => some (.imm8 .orA_d8)
  | 0xA#4 => some (.imm16 .ldA_atA16)
  | 0xE#4 => some (.imm8 .cpA_d8)
  | _ => none

/-- R69, R105: the dispatch table `Table`, by the high nibble of the opcode: an entry for the 169 mapped bytes, none
for the 87 of R70. All eight bits select, and nothing else (R71, R72). -/
def table (op : Byte) : Option Handler :=
  match op.extractLsb' 4 4 with
  | 0x0#4 => tableRow0 (op.extractLsb' 0 4)
  | 0x1#4 => tableRow1 (op.extractLsb' 0 4)
  | 0x2#4 => tableRow2 (op.extractLsb' 0 4)
  | 0x3#4 => tableRow3 (op.extractLsb' 0 4)
  | 0x4#4 => tableRow4 (op.extractLsb' 0 4)
  | 0x5#4 => tableRow5 (op.extractLsb' 0 4)
  | 0x6#4 => tableRow6 (op.extractLsb' 0 4)
  | 0x7#4 => tableRow7 (op.extractLsb' 0 4)
  | 0x8#4 => tableRow8 (op.extractLsb' 0 4)
  | 0x9#4 => tableRow9 (op.extractLsb' 0 4)
  | 0xA#4 => tableRowA (op.extractLsb' 0 4)
  | 0xB#4 => tableRowB (op.extractLsb' 0 4)
  | 0xC#4 => tableRowC (op.extractLsb' 0 4)
  | 0xD#4 => tableRowD (op.extractLsb' 0 4)
  | 0xE#4 => tableRowE (op.extractLsb' 0 4)
  | _ => tableRowF (op.extractLsb' 0 4)

/-- Why a byte string is no instruction. -/
inductive DecodeError where
  /-- The string is empty. -/
  | noOpcode
  /-- The string ends before the immediate that this mapped opcode requires. -/
  | missingImmediate (op : Byte)
deriving DecidableEq, Repr

/-- R60, R65, R66, R75: the instruction at the head of a byte string, and the bytes after it. A byte with no table
entry is the instruction `unmapped`, one byte long: nothing after it is read (R71). -/
def decode : List Byte → Except DecodeError (Instr × List Byte)
  | [] => .error .noOpcode
  | op :: rest =>
    match table op with
    | none => .ok (.unmapped op, rest)
    | some (.implied i) => .ok (i, rest)
    | some (.imm8 k) =>
      match rest with
      | d8 :: rest' => .ok (k d8, rest')
      | [] => .error (.missingImmediate op)
    | some (.imm16 k) =>
      match rest with
      | lo :: hi :: rest' => .ok (k (wordLe lo hi), rest')
      | _ => .error (.missingImmediate op)

/-- R62: the 3-bit register code. Code 6 is no register: it is `(HL)`. -/
def R8.code : R8 → BitVec 3
  | .b => 0 | .c => 1 | .d => 2 | .e => 3 | .h => 4 | .l => 5 | .a => 7

/-- R63: the 2-bit pair code of a pushed or popped pair (3 is `AF`). -/
def Pair.code : Pair → BitVec 2
  | .bc => 0 | .de => 1 | .hl => 2

/-- R63: the 2-bit pair code of `LD rr,d16`. -/
def Reg16.code : Reg16 → BitVec 2
  | .bc => 0 | .de => 1 | .hl => 2 | .sp => 3

/-- R64: the 3-bit ALU operation code. -/
def AluOp.code : AluOp → BitVec 3
  | .add => 0 | .adc => 1 | .sub => 2 | .sbc => 3 | .and => 4 | .xor => 5 | .or => 6 | .cp => 7

/-- R61: an opcode byte from its fields `x`, `y`, `z`. -/
def opcodeXYZ (x : BitVec 2) (y z : BitVec 3) : Byte := x ++ y ++ z

/-- R61: an opcode byte from its fields `x`, `p`, `q`, `z`. -/
def opcodeXPQZ (x p : BitVec 2) (q : BitVec 1) (z : BitVec 3) : Byte := x ++ p ++ q ++ z

/-- R69, the table of bit patterns: the opcode byte of each form. -/
def Form.opcode : Form → Byte
  | .copy dst src => opcodeXYZ 0b01 dst.code src.code
  | .loadImm dst _ => opcodeXYZ 0b00 dst.code 0b110
  | .loadHL dst => opcodeXYZ 0b01 dst.code 0b110
  | .load .bc => 0b00001010#8
  | .load .de => 0b00011010#8
  | .load (.abs _) => 0b11111010#8
  | .load (.high _) => 0b11110000#8
  | .load .highC => 0b11110010#8
  | .storeHL src => opcodeXYZ 0b01 0b110 src.code
  | .store .bc => 0b00000010#8
  | .store .de => 0b00010010#8
  | .store (.abs _) => 0b11101010#8
  | .store (.high _) => 0b11100000#8
  | .store .highC => 0b11100010#8
  | .storePost .inc => 0b00100010#8
  | .loadPost .inc => 0b00101010#8
  | .storePost .dec => 0b00110010#8
  | .loadPost .dec => 0b00111010#8
  | .load16 dst _ => opcodeXPQZ 0b00 dst.code 0 0b001
  | .push src => opcodeXPQZ 0b11 src.code 0 0b101
  | .pushAF => 0b11110101#8
  | .pop dst => opcodeXPQZ 0b11 dst.code 0 0b001
  | .popAF => 0b11110001#8
  | .alu op (.reg r) => opcodeXYZ 0b10 op.code r.code
  | .alu op .atHL => opcodeXYZ 0b10 op.code 0b110
  | .alu op (.imm _) => opcodeXYZ 0b11 op.code 0b110
  | .daa => 0b00100111#8
  | .unmapped op => op

/-- R60: the immediate bytes that follow the opcode, in address order. -/
def Form.immediates : Form → List Byte
  | .loadImm _ d8 => [d8]
  | .load (.abs a16) => [loByte a16, hiByte a16]
  | .load (.high a8) => [a8]
  | .store (.abs a16) => [loByte a16, hiByte a16]
  | .store (.high a8) => [a8]
  | .load16 _ d16 => [loByte d16, hiByte d16]
  | .alu _ (.imm d8) => [d8]
  | .copy _ _ | .loadHL _ | .load .bc | .load .de | .load .highC | .storeHL _ | .store .bc | .store .de
  | .store .highC | .storePost _ | .loadPost _ | .push _ | .pushAF | .pop _ | .popAF | .alu _ (.reg _)
  | .alu _ .atHL | .daa | .unmapped _ => []

/-- The bytes of an instruction: the opcode, then the immediates (R60). -/
def encode (i : Instr) : List Byte := i.form.opcode :: i.form.immediates

/-- R68: the length of an instruction in bytes. For `unmapped` it is 1: the step that fetches it stops after the
opcode byte. -/
def Instr.length (i : Instr) : Nat := i.form.immediates.length + 1

/-- The instruction the decoder reads from a table word: byte `k` of the instruction is bits `8k+7` to `8k`, and every
bit from `nbits` on is zero; three bytes are the longest instruction. -/
def decodeTableWord (nbits w : Nat) : Option Instr :=
  let v := w % 2 ^ nbits
  match decode [BitVec.ofNat 8 v, BitVec.ofNat 8 (v / 256), BitVec.ofNat 8 (v / 65536)] with
  | .ok (i, _) => some i
  | .error _ => none

end Sys2Proof
end

