-- ==== Sys2Proof/Config.lean ====
section
/-! DEFINITION. What one build of the core fixes and the spec leaves open (R3): the cost of each opcode, the frame
budget, and what a memory byte that no state lists holds. -/

namespace Sys2Proof

/-- R3, R107, D7, D8: the two OPEN parameters a step uses, in a form that can hold no illegal value.
`costCode op` stands for the cost `4 * (costCode op + 1)`, so a cost is one of 4, 8, 12, 16;
`frameCyclesPred` is `FRAME_CYCLES - 1`, so the budget is positive. -/
structure Params where
  costCode : Byte → Fin 4
  frameCyclesPred : Nat

/-- DESIGN CHOICE (assumption 4, safe): R108 leaves `COST` open, so the hardware's cost code has no body and no proof
can see a value of it. -/
opaque Config.costCode : Byte → Fin 4

/-- DESIGN CHOICE (assumption 5, safe): R3 leaves `FRAME_CYCLES` open, so the hardware's budget (less one) has no
body. -/
opaque Config.frameCyclesPred : Nat

/-- DESIGN CHOICE (assumption 2, unsafe): R58 leaves `MEM_INIT` open; a byte that a memory's list does not name reads
as this one byte. A memory of any content is still a list: every byte that differs is listed. -/
def Config.unlistedByte : Byte := 0x00#8

end Sys2Proof
end

