-- ==== Sys2Proof/Machine/State.lean ====
section
/-! DEFINITION. The architectural state of the core (10_state.md R10): every element of R10's table and nothing else,
as plain data, with the reset of 70_reset_and_hazards.md R220 and R221. -/

namespace Sys2Proof.Machine

/-- R12: the flag register `F`, four independent flags. Its byte view (bits 7 to 4, low nibble zero) is
`Flags.toByte` (R14), in Machine/Flags.lean. -/
structure Flags where
  /-- `F.Z`, zero, bit 7. -/
  z : Bool
  /-- `F.N`, subtract, bit 6. -/
  n : Bool
  /-- `F.H`, half-carry, bit 5. -/
  h : Bool
  /-- `F.C`, carry, bit 4. -/
  c : Bool
deriving DecidableEq, Repr

/-- R28: the run status. Only reset leaves `fault`. -/
inductive Status where
  | run
  | fault
deriving DecidableEq, Repr

/-- R28, R202: what the fatal stop latches: the offending byte and the value of `PC` at that moment. -/
structure FaultInfo where
  opcode : Byte
  pc : Word
deriving DecidableEq, Repr

/-- R40: the 65536 bytes of memory, as the cells that differ from `Config.unlistedByte`, by rising address. Its reads
and writes are in Machine/Ops.lean. -/
abbrev Memory := List Host.Cell

/-- The canonical form of a memory: addresses strictly rise, each lies in the 16-bit space of R40, and no cell holds
what an unlisted address reads as. -/
abbrev Memory.wf (m : Memory) : Prop :=
  m.Pairwise (fun x y => x.1 < y.1) ∧ ∀ c ∈ m, c.1 < 65536 ∧ c.2 ≠ Config.unlistedByte

/-- R10: the state of the core. The three pairs are stored as their words (R16); their byte halves are views
(R17, Machine/Ops.lean). -/
structure State where
  /-- R11: the accumulator. -/
  a : Byte
  /-- R12 to R15: the flag register. -/
  f : Flags
  /-- R16: the pair `B:C`. -/
  bc : Word
  /-- R16: the pair `D:E`. -/
  de : Word
  /-- R16: the pair `H:L`. -/
  hl : Word
  /-- R20: the stack pointer. -/
  sp : Word
  /-- R21: the program counter. -/
  pc : Word
  /-- R27: the cycle counter. -/
  cyc : Nat
  /-- R28: the run status. -/
  status : Status
  /-- R28, R202: the fault latch, absent while the status is `run`. -/
  faultInfo : Option FaultInfo
  /-- R40: memory. -/
  mem : Memory
deriving DecidableEq, Repr

/-- The reasons a step may stop the machine outright. THERE ARE NONE: the core's one exception, `UnmappedOpcode`,
has an entry the spec describes (R203), so it is a next state; R200 names no other fault. -/
inductive Fault where
deriving DecidableEq, Repr

/-- The reasons a step may decline an instruction. -/
inductive Refusal where
  /-- Raised by an arm of `exec` whose instruction has no meaning yet (safe: nothing is then provable of it). No arm
  raises it: every instruction has its meaning. -/
  | notModelled (mnemonic : String)
deriving DecidableEq, Repr

/-- R3, R221: `RESET_STATE`, the open parameter of reset: one value for each register. -/
structure ResetState where
  a : Byte
  f : Flags
  bc : Word
  de : Word
  hl : Word
  sp : Word
  pc : Word
deriving DecidableEq, Repr

/-- R221, column "default of this spec": all zero. DESIGN CHOICE (assumption 1, unsafe): the hardware's values are
unspecified. -/
def ResetState.default : ResetState :=
  { a := 0x00#8, f := { z := false, n := false, h := false, c := false },
    bc := 0x0000#16, de := 0x0000#16, hl := 0x0000#16, sp := 0x0000#16, pc := 0x0000#16 }

/-- R114, R220: construction of the core on a memory the host has built: every element of R221's table. -/
def State.construct (r : ResetState) (m : Memory) : State :=
  { a := r.a, f := r.f, bc := r.bc, de := r.de, hl := r.hl, sp := r.sp, pc := r.pc,
    cyc := 0, status := .run, faultInfo := none, mem := m }

/-- R220: asserting reset in any state, `FAULT` included: every element but memory goes to R221's value. -/
def State.resetTo (r : ResetState) (s : State) : State := State.construct r s.mem

/-- The machine right after reset: R221 with the spec's default `RESET_STATE`, on a memory that lists nothing. -/
def State.reset : State := State.construct ResetState.default []

/-- What a step or a meaning answers. -/
abbrev Result := Host.Outcome State Fault Refusal

end Sys2Proof.Machine
end

