-- ==== Sys2Proof/Machine/Flags.lean ====
section
/-! DEFINITION. The flag register's views (10_state.md R12 to R15) and the ALU (40_alu.md R80 to R88): pure functions
of explicit operands that return a result and all four flags (R81). Arithmetic is exact on naturals and cut to its
width at the end, so a carry or a borrow is a comparison. -/

namespace Sys2Proof.Machine

/-- R12: the four flag identifiers. -/
inductive FlagId where
  | zero | subtract | halfCarry | carry
deriving DecidableEq, Repr

/-- R15: `get(flag)`. -/
def Flags.get (f : Flags) : FlagId → Bool
  | .zero => f.z
  | .subtract => f.n
  | .halfCarry => f.h
  | .carry => f.c

/-- R15: `set(flag, bool)`; the other three flags stay. -/
def Flags.set (f : Flags) (k : FlagId) (v : Bool) : Flags :=
  match k with
  | .zero => { f with z := v }
  | .subtract => { f with n := v }
  | .halfCarry => { f with h := v }
  | .carry => { f with c := v }

/-- R15: the "mask-selected bulk update": the flags that `mask` selects take `new`'s value, the others stay.
DEDUCED (assumption 9, safe): the spec gives the operation no formula. No instruction uses it. -/
def Flags.assignMasked (f mask new : Flags) : Flags :=
  { z := if mask.z then new.z else f.z
    n := if mask.n then new.n else f.n
    h := if mask.h then new.h else f.h
    c := if mask.c then new.c else f.c }

/-- R14: `to_byte(F)`: `Z N H C` in bits 7 to 4, zero in bits 3 to 0 (R12, R13). -/
def Flags.toByte (f : Flags) : Byte :=
  BitVec.ofBool f.z ++ BitVec.ofBool f.n ++ BitVec.ofBool f.h ++ BitVec.ofBool f.c ++ 0#4

/-- R14: `from_byte(b)`: bits 3 to 0 are dropped. -/
def Flags.fromByte (b : Byte) : Flags :=
  { z := b.getLsbD 7, n := b.getLsbD 6, h := b.getLsbD 5, c := b.getLsbD 4 }

/-- R82, R88: `add_W(a, b, cin)`; the half-carry is out of bit `W/2 - 1`, the carry out of bit `W - 1`. -/
def addW {W : Nat} (a b : BitVec W) (cin : Bool) : BitVec W × Flags :=
  let half := 2 ^ (W / 2)
  let sum := a.toNat + b.toNat + cin.toNat
  let result := BitVec.ofNat W sum
  (result,
    { z := decide (result = 0#W)
      n := false
      h := decide (half - 1 < a.toNat % half + b.toNat % half + cin.toNat)
      c := decide (2 ^ W - 1 < sum) })

/-- R83, R88: `sub_W(a, b, cin)`; both comparisons are on unwrapped sums, and the carry means borrow. -/
def subW {W : Nat} (a b : BitVec W) (cin : Bool) : BitVec W × Flags :=
  let half := 2 ^ (W / 2)
  let result := BitVec.ofInt W ((a.toNat : Int) - (b.toNat : Int) - (cin.toNat : Int))
  (result,
    { z := decide (result = 0#W)
      n := true
      h := decide (a.toNat % half < b.toNat % half + cin.toNat)
      c := decide (a.toNat < b.toNat + cin.toNat) })

/-- R84: `and_byte(a, b)`; the half-carry is always set. -/
def andByte (a b : Byte) : Byte × Flags :=
  (a &&& b, { z := decide (a &&& b = 0#8), n := false, h := true, c := false })

/-- R85: `or_byte(a, b)`. -/
def orByte (a b : Byte) : Byte × Flags :=
  (a ||| b, { z := decide (a ||| b = 0#8), n := false, h := false, c := false })

/-- R86: `xor_byte(a, b)`. -/
def xorByte (a b : Byte) : Byte × Flags :=
  (a ^^^ b, { z := decide (a ^^^ b = 0#8), n := false, h := false, c := false })

/-- R87: the correction byte and the carry out of `decimal_adjust`. After an addition both tests read the original
value; after a subtraction only the flags are read. Assumption 8 (unsafe outside the BCD domain of R93). -/
def decimalCorrection (value : Byte) (fin : Flags) : Byte × Bool :=
  if fin.n then
    ((if fin.h then 0x06#8 else 0x00#8) ||| (if fin.c then 0x60#8 else 0x00#8), fin.c)
  else
    let high := fin.c || decide (0x99 < value.toNat)
    ((if fin.h || decide (0x09 < (value &&& 0x0F#8).toNat) then 0x06#8 else 0x00#8) |||
      (if high then 0x60#8 else 0x00#8), high)

/-- R87: `decimal_adjust(value, fin)`; the zero flag it is given is not used. -/
def decimalAdjust (value : Byte) (fin : Flags) : Byte × Flags :=
  let corr := decimalCorrection value fin
  let result := if fin.n then value - corr.1 else value + corr.1
  (result, { z := decide (result = 0#8), n := fin.n, h := false, c := corr.2 })

/-- R161 to R184: the ALU function each operation calls, with the accumulator first and the old carry as carry-in
where the operation has one. -/
def aluFunction (op : AluOp) (acc v : Byte) (carry : Bool) : Byte × Flags :=
  match op with
  | .add => addW acc v false
  | .adc => addW acc v carry
  | .sub => subW acc v false
  | .sbc => subW acc v carry
  | .and => andByte acc v
  | .xor => xorByte acc v
  | .or => orByte acc v
  | .cp => subW acc v false

/-- R160, R182: whether an operation writes its result to the accumulator; compare keeps only the flags. -/
def writesAccumulator : AluOp → Bool
  | .cp => false
  | .add | .adc | .sub | .sbc | .and | .xor | .or => true

end Sys2Proof.Machine
end

