-- ==== Sys2Proof/Machine/Operands.lean ====
section
/-! DEFINITION. The views of the state that instructions name: the 8-bit registers and the pairs over one storage
(10_state.md R16 to R19, R25, R26), one byte of memory, and the operand forms and effective addresses of
42_load_store_8bit.md section 5 and 44_alu_instructions.md R160. -/

namespace Sys2Proof.Machine

/-- R25: `R8[c]` read. The byte halves are views of the pair's word (R17). -/
def State.getR8 (s : State) : R8 → Byte
  | .a => s.a
  | .b => hiByte s.bc
  | .c => loByte s.bc
  | .d => hiByte s.de
  | .e => loByte s.de
  | .h => hiByte s.hl
  | .l => loByte s.hl

/-- R25: `R8[c] <- v`. Writing a half keeps the other half of the word (R17). -/
def State.setR8 (s : State) (r : R8) (v : Byte) : State :=
  match r with
  | .a => { s with a := v }
  | .b => { s with bc := makeAddress v (loByte s.bc) }
  | .c => { s with bc := makeAddress (hiByte s.bc) v }
  | .d => { s with de := makeAddress v (loByte s.de) }
  | .e => { s with de := makeAddress (hiByte s.de) v }
  | .h => { s with hl := makeAddress v (loByte s.hl) }
  | .l => { s with hl := makeAddress (hiByte s.hl) v }

/-- R19, R26: the word view of a pair. -/
def State.getPair (s : State) : Pair → Word
  | .bc => s.bc
  | .de => s.de
  | .hl => s.hl

/-- R19: `Q16[p] <- w` for a pair: both halves in one write. -/
def State.setPair (s : State) (p : Pair) (w : Word) : State :=
  match p with
  | .bc => { s with bc := w }
  | .de => { s with de := w }
  | .hl => { s with hl := w }

/-- R26: `R16[p]`, the value of a destination of `LD rr,d16`. -/
def State.get16 (s : State) : Reg16 → Word
  | .bc => s.bc
  | .de => s.de
  | .hl => s.hl
  | .sp => s.sp

/-- R26: `R16[p] <- w`. -/
def State.set16 (s : State) (r : Reg16) (w : Word) : State :=
  match r with
  | .bc => { s with bc := w }
  | .de => { s with de := w }
  | .hl => { s with hl := w }
  | .sp => { s with sp := w }

/-- R41: `MemRead(addr, 1)`. -/
def State.readByte (s : State) (a : Word) : Byte := s.mem.read a.toNat

/-- R42: `MemWrite(addr, 1, v)`. -/
def State.writeByte (s : State) (a : Word) (v : Byte) : State := { s with mem := s.mem.write a.toNat v }

/-- 42_load_store_8bit.md section 5: the address a load or store of the accumulator uses. The high page is
`make_address(0xFF, n)` (R127, R128, R133, R134). -/
def State.address (s : State) : Mode → Word
  | .bc => s.bc
  | .de => s.de
  | .abs a16 => a16
  | .high a8 => makeAddress 0xFF#8 a8
  | .highC => makeAddress 0xFF#8 (loByte s.bc)

/-- R160(a): the second operand of an ALU instruction. -/
def State.operand (s : State) : Src → Byte
  | .reg r => s.getR8 r
  | .atHL => s.readByte s.hl
  | .imm d8 => d8

/-- R135 to R138: `HL` plus or minus one, modulo 2^16. -/
def stepHL (p : Post) (w : Word) : Word :=
  match p with
  | .inc => w + 1#16
  | .dec => w - 1#16

end Sys2Proof.Machine
end

