-- ==== Sys2Proof/Machine/Ops.lean ====
section
/-! DEFINITION. The shared operations: fetching (41_dispatch.md R103 to R105), the effect of each instruction form
(42, 43, 44), and taking the one exception (60_exceptions.md R203). There is no return from it (R205): only reset
(Machine/State.lean) leaves `FAULT`. -/

namespace Sys2Proof.Machine

/-- R103: `Fetch8()`: the byte at `PC`, and the state with `PC` one further, modulo 2^16. -/
def State.fetch8 (s : State) : Byte × State := (s.readByte s.pc, { s with pc := s.pc + 1#16 })

/-- R104: `Fetch16()`: two bytes, low then high. -/
def State.fetch16 (s : State) : Word × State :=
  let lo := s.fetch8
  let hi := lo.2.fetch8
  (wordLe lo.1 hi.1, hi.2)

/-- R102, R105: the opcode fetch, the table lookup, and the immediate fetches of the entry. A byte with no entry is
fetched alone (R203, R204). DEDUCED (assumption 6, safe): the immediates are fetched before the handler runs, which
R57 says of every instruction. -/
def State.fetchInstr (s : State) : Instr × State :=
  let op := s.fetch8
  match table op.1 with
  | none => (.unmapped op.1, op.2)
  | some (.implied i) => (i, op.2)
  | some (.imm8 k) =>
    let d := op.2.fetch8
    (k d.1, d.2)
  | some (.imm16 k) =>
    let d := op.2.fetch16
    (k d.1, d.2)

/-- R201 to R203: TAKING THE EXCEPTION. `raise UnmappedOpcode(op, pc)`: the offending byte and `PC` (already past it,
R202) are latched, the status becomes `FAULT`, and nothing else changes. -/
def raiseUnmappedOpcode (op : Byte) (s : State) : State :=
  { s with faultInfo := some { opcode := op, pc := s.pc }, status := .fault }

/-- R121: `R8[ddd] <- R8[sss]`. -/
def copyRegister (dst src : R8) (s : State) : State := s.setR8 dst (s.getR8 src)

/-- R122: `R8[ddd] <- d8`. -/
def loadImmediate (dst : R8) (d8 : Byte) (s : State) : State := s.setR8 dst d8

/-- R123: `R8[ddd] <- MemRead(HL, 1)`, the address read before the register is written. -/
def loadThroughHL (dst : R8) (s : State) : State := s.setR8 dst (s.readByte s.hl)

/-- R124 to R128: `A <- MemRead(address, 1)`. -/
def loadAccumulator (m : Mode) (s : State) : State := { s with a := s.readByte (s.address m) }

/-- R129: `MemWrite(HL, 1, R8[sss])`. -/
def storeThroughHL (src : R8) (s : State) : State := s.writeByte s.hl (s.getR8 src)

/-- R130 to R134: `MemWrite(address, 1, A)`. -/
def storeAccumulator (m : Mode) (s : State) : State := s.writeByte (s.address m) s.a

/-- R135, R137: `MemWrite(HL, 1, A)`, then `HL` moves by one. -/
def storePostModify (p : Post) (s : State) : State := { s.writeByte s.hl s.a with hl := stepHL p s.hl }

/-- R136, R138: `A <- MemRead(HL, 1)`, then `HL` moves by one. -/
def loadPostModify (p : Post) (s : State) : State := { s with a := s.readByte s.hl, hl := stepHL p s.hl }

/-- R151: `R16[p] <- d16`. -/
def loadImmediate16 (dst : Reg16) (d16 : Word) (s : State) : State := s.set16 dst d16

/-- R152: `SP <- SP - 1`, then `MemWrite(SP, 1, v)`. -/
def State.pushByte (s : State) (v : Byte) : State :=
  let s' := { s with sp := s.sp - 1#16 }
  s'.writeByte s'.sp v

/-- R154: `MemRead(SP, 1)`, then `SP <- SP + 1`. -/
def State.popByte (s : State) : Byte × State := (s.readByte s.sp, { s with sp := s.sp + 1#16 })

/-- R152: the high byte first, at the higher address. -/
def pushPair (src : Pair) (s : State) : State :=
  let w := s.getPair src
  (s.pushByte (hiByte w)).pushByte (loByte w)

/-- R153: the accumulator first, then the flag byte. -/
def pushAF (s : State) : State := (s.pushByte s.a).pushByte s.f.toByte

/-- R154: the low byte first, then the high byte, then the pair in one write. -/
def popPair (dst : Pair) (s : State) : State :=
  let l := s.popByte
  let h := l.2.popByte
  h.2.setPair dst (makeAddress h.1 l.1)

/-- R155: the flag byte first (its low nibble is dropped), then the accumulator. -/
def popAF (s : State) : State :=
  let l := s.popByte
  let h := l.2.popByte
  { h.2 with f := Flags.fromByte l.1, a := h.1 }

/-- R160: the ALU on the accumulator and the operand; `F` takes all four flags, `A` the result unless the operation is
compare (R182). -/
def aluAccumulator (op : AluOp) (src : Src) (s : State) : State :=
  let r := aluFunction op s.a (s.operand src) s.f.c
  { s with a := if writesAccumulator op then r.1 else s.a, f := r.2 }

/-- R185: `DAA`. -/
def decimalAdjustAccumulator (s : State) : State :=
  let r := decimalAdjust s.a s.f
  { s with a := r.1, f := r.2 }

end Sys2Proof.Machine
end

