-- ==== Sys2Proof/Machine/Cost.lean ====
section
/-! DEFINITION. Cycle accounting (41_dispatch.md R107, R108). Nothing reads the counter (R27). -/

namespace Sys2Proof.Machine

/-- R107, R108: `COST[op]`, one of 4, 8, 12, 16, with the two values KG fixes. -/
def paramCost (P : Params) (op : Byte) : Nat :=
  if op = 0x3E#8 ∨ op = 0x87#8 then 4 else 4 * ((P.costCode op).val + 1)

/-- R3: `FRAME_CYCLES`, a positive number. -/
def paramFrame (P : Params) : Nat := P.frameCyclesPred + 1

/-- The parameters of the hardware: open (assumptions 4 and 5). -/
def hardwareParams : Params := { costCode := Config.costCode, frameCyclesPred := Config.frameCyclesPred }

/-- R108: the table `COST_REF`, by instruction form. An unmapped byte has no entry and no cost (D19). -/
def costRef : Form → Nat
  | .copy _ _ => 4
  | .loadImm .a _ => 4
  | .loadImm _ _ => 8
  | .loadHL _ => 8
  | .load .bc => 8
  | .load .de => 8
  | .load (.abs _) => 16
  | .load (.high _) => 12
  | .load .highC => 8
  | .storeHL _ => 8
  | .store .bc => 8
  | .store .de => 8
  | .store (.abs _) => 16
  | .store (.high _) => 12
  | .store .highC => 8
  | .storePost _ => 8
  | .loadPost _ => 8
  | .load16 _ _ => 12
  | .push _ => 16
  | .pushAF => 16
  | .pop _ => 12
  | .popAF => 12
  | .alu _ (.reg _) => 4
  | .alu _ .atHL => 8
  | .alu _ (.imm _) => 8
  | .daa => 4
  | .unmapped _ => 0

/-- The form an opcode byte selects, with zeros for its immediates. -/
def formOfOpcode (op : Byte) : Form :=
  match table op with
  | none => .unmapped op
  | some (.implied i) => i.form
  | some (.imm8 k) => (k 0#8).form
  | some (.imm16 k) => (k 0#16).form

/-- R3, R108: the reference values the spec's vectors use: `COST_REF` and 70224. For running the model; the machine's
own step takes `hardwareParams` (assumption 7). -/
def referenceParams : Params :=
  { costCode := fun op => Fin.ofNat 4 (costRef (formOfOpcode op) / 4 - 1), frameCyclesPred := 70223 }

/-- R102, R107: the account line of a step: `cyc <- (cyc + COST[op]) mod FRAME_CYCLES` after a handler has run. An
unmapped byte has no handler, and its step leaves `cyc` unchanged (D19). -/
def account (P : Params) (i : Instr) (s : State) : State :=
  match table i.form.opcode with
  | none => s
  | some _ => { s with cyc := (s.cyc + paramCost P i.form.opcode) % paramFrame P }

end Sys2Proof.Machine
end

