-- ==== Sys2Proof/Machine/AluInstr.lean ====
section
/-! DEFINITION. The ALU instructions (44_alu_instructions.md R161 to R185), one definition per opcode byte. -/

namespace Sys2Proof.Machine

/-- R185: 0x27 `DAA`. -/
def execDaa (s : State) : Result := .next (decimalAdjustAccumulator s)

/-- R161: 0x80 `ADD A,B`. -/
def execAddA_B (s : State) : Result := .next (aluAccumulator .add (.reg .b) s)

/-- R161: 0x81 `ADD A,C`. -/
def execAddA_C (s : State) : Result := .next (aluAccumulator .add (.reg .c) s)

/-- R161: 0x82 `ADD A,D`. -/
def execAddA_D (s : State) : Result := .next (aluAccumulator .add (.reg .d) s)

/-- R161: 0x83 `ADD A,E`. -/
def execAddA_E (s : State) : Result := .next (aluAccumulator .add (.reg .e) s)

/-- R161: 0x84 `ADD A,H`. -/
def execAddA_H (s : State) : Result := .next (aluAccumulator .add (.reg .h) s)

/-- R161: 0x85 `ADD A,L`. -/
def execAddA_L (s : State) : Result := .next (aluAccumulator .add (.reg .l) s)

/-- R162: 0x86 `ADD A,(HL)`. -/
def execAddA_atHL (s : State) : Result := .next (aluAccumulator .add .atHL s)

/-- R161: 0x87 `ADD A,A`. -/
def execAddA_A (s : State) : Result := .next (aluAccumulator .add (.reg .a) s)

/-- R164: 0x88 `ADC A,B`. -/
def execAdcA_B (s : State) : Result := .next (aluAccumulator .adc (.reg .b) s)

/-- R164: 0x89 `ADC A,C`. -/
def execAdcA_C (s : State) : Result := .next (aluAccumulator .adc (.reg .c) s)

/-- R164: 0x8A `ADC A,D`. -/
def execAdcA_D (s : State) : Result := .next (aluAccumulator .adc (.reg .d) s)

/-- R164: 0x8B `ADC A,E`. -/
def execAdcA_E (s : State) : Result := .next (aluAccumulator .adc (.reg .e) s)

/-- R164: 0x8C `ADC A,H`. -/
def execAdcA_H (s : State) : Result := .next (aluAccumulator .adc (.reg .h) s)

/-- R164: 0x8D `ADC A,L`. -/
def execAdcA_L (s : State) : Result := .next (aluAccumulator .adc (.reg .l) s)

/-- R165: 0x8E `ADC A,(HL)`. -/
def execAdcA_atHL (s : State) : Result := .next (aluAccumulator .adc .atHL s)

/-- R164: 0x8F `ADC A,A`. -/
def execAdcA_A (s : State) : Result := .next (aluAccumulator .adc (.reg .a) s)

/-- R167: 0x90 `SUB A,B`. -/
def execSubA_B (s : State) : Result := .next (aluAccumulator .sub (.reg .b) s)

/-- R167: 0x91 `SUB A,C`. -/
def execSubA_C (s : State) : Result := .next (aluAccumulator .sub (.reg .c) s)

/-- R167: 0x92 `SUB A,D`. -/
def execSubA_D (s : State) : Result := .next (aluAccumulator .sub (.reg .d) s)

/-- R167: 0x93 `SUB A,E`. -/
def execSubA_E (s : State) : Result := .next (aluAccumulator .sub (.reg .e) s)

/-- R167: 0x94 `SUB A,H`. -/
def execSubA_H (s : State) : Result := .next (aluAccumulator .sub (.reg .h) s)

/-- R167: 0x95 `SUB A,L`. -/
def execSubA_L (s : State) : Result := .next (aluAccumulator .sub (.reg .l) s)

/-- R168: 0x96 `SUB A,(HL)`. -/
def execSubA_atHL (s : State) : Result := .next (aluAccumulator .sub .atHL s)

/-- R167: 0x97 `SUB A,A`. -/
def execSubA_A (s : State) : Result := .next (aluAccumulator .sub (.reg .a) s)

/-- R170: 0x98 `SBC A,B`. -/
def execSbcA_B (s : State) : Result := .next (aluAccumulator .sbc (.reg .b) s)

/-- R170: 0x99 `SBC A,C`. -/
def execSbcA_C (s : State) : Result := .next (aluAccumulator .sbc (.reg .c) s)

/-- R170: 0x9A `SBC A,D`. -/
def execSbcA_D (s : State) : Result := .next (aluAccumulator .sbc (.reg .d) s)

/-- R170: 0x9B `SBC A,E`. -/
def execSbcA_E (s : State) : Result := .next (aluAccumulator .sbc (.reg .e) s)

/-- R170: 0x9C `SBC A,H`. -/
def execSbcA_H (s : State) : Result := .next (aluAccumulator .sbc (.reg .h) s)

/-- R170: 0x9D `SBC A,L`. -/
def execSbcA_L (s : State) : Result := .next (aluAccumulator .sbc (.reg .l) s)

/-- R171: 0x9E `SBC A,(HL)`. -/
def execSbcA_atHL (s : State) : Result := .next (aluAccumulator .sbc .atHL s)

/-- R170: 0x9F `SBC A,A`. -/
def execSbcA_A (s : State) : Result := .next (aluAccumulator .sbc (.reg .a) s)

/-- R173: 0xA0 `AND A,B`. -/
def execAndA_B (s : State) : Result := .next (aluAccumulator .and (.reg .b) s)

/-- R173: 0xA1 `AND A,C`. -/
def execAndA_C (s : State) : Result := .next (aluAccumulator .and (.reg .c) s)

/-- R173: 0xA2 `AND A,D`. -/
def execAndA_D (s : State) : Result := .next (aluAccumulator .and (.reg .d) s)

/-- R173: 0xA3 `AND A,E`. -/
def execAndA_E (s : State) : Result := .next (aluAccumulator .and (.reg .e) s)

/-- R173: 0xA4 `AND A,H`. -/
def execAndA_H (s : State) : Result := .next (aluAccumulator .and (.reg .h) s)

/-- R173: 0xA5 `AND A,L`. -/
def execAndA_L (s : State) : Result := .next (aluAccumulator .and (.reg .l) s)

/-- R174: 0xA6 `AND A,(HL)`. -/
def execAndA_atHL (s : State) : Result := .next (aluAccumulator .and .atHL s)

/-- R173: 0xA7 `AND A,A`. -/
def execAndA_A (s : State) : Result := .next (aluAccumulator .and (.reg .a) s)

/-- R176: 0xA8 `XOR A,B`. -/
def execXorA_B (s : State) : Result := .next (aluAccumulator .xor (.reg .b) s)

/-- R176: 0xA9 `XOR A,C`. -/
def execXorA_C (s : State) : Result := .next (aluAccumulator .xor (.reg .c) s)

/-- R176: 0xAA `XOR A,D`. -/
def execXorA_D (s : State) : Result := .next (aluAccumulator .xor (.reg .d) s)

/-- R176: 0xAB `XOR A,E`. -/
def execXorA_E (s : State) : Result := .next (aluAccumulator .xor (.reg .e) s)

/-- R176: 0xAC `XOR A,H`. -/
def execXorA_H (s : State) : Result := .next (aluAccumulator .xor (.reg .h) s)

/-- R176: 0xAD `XOR A,L`. -/
def execXorA_L (s : State) : Result := .next (aluAccumulator .xor (.reg .l) s)

/-- R177: 0xAE `XOR A,(HL)`. -/
def execXorA_atHL (s : State) : Result := .next (aluAccumulator .xor .atHL s)

/-- R176: 0xAF `XOR A,A`. -/
def execXorA_A (s : State) : Result := .next (aluAccumulator .xor (.reg .a) s)

/-- R179: 0xB0 `OR A,B`. -/
def execOrA_B (s : State) : Result := .next (aluAccumulator .or (.reg .b) s)

/-- R179: 0xB1 `OR A,C`. -/
def execOrA_C (s : State) : Result := .next (aluAccumulator .or (.reg .c) s)

/-- R179: 0xB2 `OR A,D`. -/
def execOrA_D (s : State) : Result := .next (aluAccumulator .or (.reg .d) s)

/-- R179: 0xB3 `OR A,E`. -/
def execOrA_E (s : State) : Result := .next (aluAccumulator .or (.reg .e) s)

/-- R179: 0xB4 `OR A,H`. -/
def execOrA_H (s : State) : Result := .next (aluAccumulator .or (.reg .h) s)

/-- R179: 0xB5 `OR A,L`. -/
def execOrA_L (s : State) : Result := .next (aluAccumulator .or (.reg .l) s)

/-- R180: 0xB6 `OR A,(HL)`. -/
def execOrA_atHL (s : State) : Result := .next (aluAccumulator .or .atHL s)

/-- R179: 0xB7 `OR A,A`. -/
def execOrA_A (s : State) : Result := .next (aluAccumulator .or (.reg .a) s)

/-- R182: 0xB8 `CP A,B`. -/
def execCpA_B (s : State) : Result := .next (aluAccumulator .cp (.reg .b) s)

/-- R182: 0xB9 `CP A,C`. -/
def execCpA_C (s : State) : Result := .next (aluAccumulator .cp (.reg .c) s)

/-- R182: 0xBA `CP A,D`. -/
def execCpA_D (s : State) : Result := .next (aluAccumulator .cp (.reg .d) s)

/-- R182: 0xBB `CP A,E`. -/
def execCpA_E (s : State) : Result := .next (aluAccumulator .cp (.reg .e) s)

/-- R182: 0xBC `CP A,H`. -/
def execCpA_H (s : State) : Result := .next (aluAccumulator .cp (.reg .h) s)

/-- R182: 0xBD `CP A,L`. -/
def execCpA_L (s : State) : Result := .next (aluAccumulator .cp (.reg .l) s)

/-- R183: 0xBE `CP A,(HL)`. -/
def execCpA_atHL (s : State) : Result := .next (aluAccumulator .cp .atHL s)

/-- R182: 0xBF `CP A,A`. -/
def execCpA_A (s : State) : Result := .next (aluAccumulator .cp (.reg .a) s)

/-- R163: 0xC6 `ADD A,d8`. -/
def execAddA_d8 (d8 : Byte) (s : State) : Result := .next (aluAccumulator .add (.imm d8) s)

/-- R166: 0xCE `ADC A,d8`. -/
def execAdcA_d8 (d8 : Byte) (s : State) : Result := .next (aluAccumulator .adc (.imm d8) s)

/-- R169: 0xD6 `SUB A,d8`. -/
def execSubA_d8 (d8 : Byte) (s : State) : Result := .next (aluAccumulator .sub (.imm d8) s)

/-- R172: 0xDE `SBC A,d8`. -/
def execSbcA_d8 (d8 : Byte) (s : State) : Result := .next (aluAccumulator .sbc (.imm d8) s)

/-- R175: 0xE6 `AND A,d8`. -/
def execAndA_d8 (d8 : Byte) (s : State) : Result := .next (aluAccumulator .and (.imm d8) s)

/-- R178: 0xEE `XOR A,d8`. -/
def execXorA_d8 (d8 : Byte) (s : State) : Result := .next (aluAccumulator .xor (.imm d8) s)

/-- R181: 0xF6 `OR A,d8`. -/
def execOrA_d8 (d8 : Byte) (s : State) : Result := .next (aluAccumulator .or (.imm d8) s)

/-- R184: 0xFE `CP A,d8`. -/
def execCpA_d8 (d8 : Byte) (s : State) : Result := .next (aluAccumulator .cp (.imm d8) s)

end Sys2Proof.Machine
end

