-- ==== Sys2Proof/Machine/Fatal.lean ====
section
/-! DEFINITION. The unmapped opcode bytes (60_exceptions.md R201): their one meaning is the fatal stop. -/

namespace Sys2Proof.Machine

/-- R201, R203: dispatch on a byte with no table entry raises `UnmappedOpcode`. -/
def execUnmapped (op : Byte) (s : State) : Result := .next (raiseUnmappedOpcode op s)

end Sys2Proof.Machine
end

