-- ==== Sys2Proof/Machine/Load16Stack.lean ====
section
/-! DEFINITION. The 16-bit immediate loads, pushes and pops (43_load16_stack.md R151 to R155), one definition per opcode byte. -/

namespace Sys2Proof.Machine

/-- R151: 0x01 `LD BC,d16`. -/
def execLdBC_d16 (d16 : Word) (s : State) : Result := .next (loadImmediate16 .bc d16 s)

/-- R151: 0x11 `LD DE,d16`. -/
def execLdDE_d16 (d16 : Word) (s : State) : Result := .next (loadImmediate16 .de d16 s)

/-- R151: 0x21 `LD HL,d16`. -/
def execLdHL_d16 (d16 : Word) (s : State) : Result := .next (loadImmediate16 .hl d16 s)

/-- R151: 0x31 `LD SP,d16`. -/
def execLdSP_d16 (d16 : Word) (s : State) : Result := .next (loadImmediate16 .sp d16 s)

/-- R154: 0xC1 `POP BC`. -/
def execPopBC (s : State) : Result := .next (popPair .bc s)

/-- R152: 0xC5 `PUSH BC`. -/
def execPushBC (s : State) : Result := .next (pushPair .bc s)

/-- R154: 0xD1 `POP DE`. -/
def execPopDE (s : State) : Result := .next (popPair .de s)

/-- R152: 0xD5 `PUSH DE`. -/
def execPushDE (s : State) : Result := .next (pushPair .de s)

/-- R154: 0xE1 `POP HL`. -/
def execPopHL (s : State) : Result := .next (popPair .hl s)

/-- R152: 0xE5 `PUSH HL`. -/
def execPushHL (s : State) : Result := .next (pushPair .hl s)

/-- R155: 0xF1 `POP AF`. -/
def execPopAF (s : State) : Result := .next (popAF s)

/-- R153: 0xF5 `PUSH AF`. -/
def execPushAF (s : State) : Result := .next (pushAF s)

end Sys2Proof.Machine
end

