-- ==== Sys2Proof/Machine/LoadStore8.lean ====
section
/-! DEFINITION. The 8-bit loads, stores and copies (42_load_store_8bit.md R121 to R138), one definition per opcode byte over the
shared operations of Machine/Ops.lean. The fetch has read the immediates and moved `PC` (R102), so no meaning does. -/

namespace Sys2Proof.Machine

/-- R130: 0x02 `LD (BC),A`. -/
def execLdAtBC_A (s : State) : Result := .next (storeAccumulator .bc s)

/-- R122: 0x06 `LD B,d8`. -/
def execLdB_d8 (d8 : Byte) (s : State) : Result := .next (loadImmediate .b d8 s)

/-- R124: 0x0A `LD A,(BC)`. -/
def execLdA_atBC (s : State) : Result := .next (loadAccumulator .bc s)

/-- R122: 0x0E `LD C,d8`. -/
def execLdC_d8 (d8 : Byte) (s : State) : Result := .next (loadImmediate .c d8 s)

/-- R131: 0x12 `LD (DE),A`. -/
def execLdAtDE_A (s : State) : Result := .next (storeAccumulator .de s)

/-- R122: 0x16 `LD D,d8`. -/
def execLdD_d8 (d8 : Byte) (s : State) : Result := .next (loadImmediate .d d8 s)

/-- R125: 0x1A `LD A,(DE)`. -/
def execLdA_atDE (s : State) : Result := .next (loadAccumulator .de s)

/-- R122: 0x1E `LD E,d8`. -/
def execLdE_d8 (d8 : Byte) (s : State) : Result := .next (loadImmediate .e d8 s)

/-- R135: 0x22 `LD (HL+),A`. -/
def execLdAtHLinc_A (s : State) : Result := .next (storePostModify .inc s)

/-- R122: 0x26 `LD H,d8`. -/
def execLdH_d8 (d8 : Byte) (s : State) : Result := .next (loadImmediate .h d8 s)

/-- R136: 0x2A `LD A,(HL+)`. -/
def execLdA_atHLinc (s : State) : Result := .next (loadPostModify .inc s)

/-- R122: 0x2E `LD L,d8`. -/
def execLdL_d8 (d8 : Byte) (s : State) : Result := .next (loadImmediate .l d8 s)

/-- R137: 0x32 `LD (HL-),A`. -/
def execLdAtHLdec_A (s : State) : Result := .next (storePostModify .dec s)

/-- R138: 0x3A `LD A,(HL-)`. -/
def execLdA_atHLdec (s : State) : Result := .next (loadPostModify .dec s)

/-- R122: 0x3E `LD A,d8`. -/
def execLdA_d8 (d8 : Byte) (s : State) : Result := .next (loadImmediate .a d8 s)

/-- R121: 0x40 `LD B,B`. -/
def execLdB_B (s : State) : Result := .next (copyRegister .b .b s)

/-- R121: 0x41 `LD B,C`. -/
def execLdB_C (s : State) : Result := .next (copyRegister .b .c s)

/-- R121: 0x42 `LD B,D`. -/
def execLdB_D (s : State) : Result := .next (copyRegister .b .d s)

/-- R121: 0x43 `LD B,E`. -/
def execLdB_E (s : State) : Result := .next (copyRegister .b .e s)

/-- R121: 0x44 `LD B,H`. -/
def execLdB_H (s : State) : Result := .next (copyRegister .b .h s)

/-- R121: 0x45 `LD B,L`. -/
def execLdB_L (s : State) : Result := .next (copyRegister .b .l s)

/-- R123: 0x46 `LD B,(HL)`. -/
def execLdB_atHL (s : State) : Result := .next (loadThroughHL .b s)

/-- R121: 0x47 `LD B,A`. -/
def execLdB_A (s : State) : Result := .next (copyRegister .b .a s)

/-- R121: 0x48 `LD C,B`. -/
def execLdC_B (s : State) : Result := .next (copyRegister .c .b s)

/-- R121: 0x49 `LD C,C`. -/
def execLdC_C (s : State) : Result := .next (copyRegister .c .c s)

/-- R121: 0x4A `LD C,D`. -/
def execLdC_D (s : State) : Result := .next (copyRegister .c .d s)

/-- R121: 0x4B `LD C,E`. -/
def execLdC_E (s : State) : Result := .next (copyRegister .c .e s)

/-- R121: 0x4C `LD C,H`. -/
def execLdC_H (s : State) : Result := .next (copyRegister .c .h s)

/-- R121: 0x4D `LD C,L`. -/
def execLdC_L (s : State) : Result := .next (copyRegister .c .l s)

/-- R123: 0x4E `LD C,(HL)`. -/
def execLdC_atHL (s : State) : Result := .next (loadThroughHL .c s)

/-- R121: 0x4F `LD C,A`. -/
def execLdC_A (s : State) : Result := .next (copyRegister .c .a s)

/-- R121: 0x50 `LD D,B`. -/
def execLdD_B (s : State) : Result := .next (copyRegister .d .b s)

/-- R121: 0x51 `LD D,C`. -/
def execLdD_C (s : State) : Result := .next (copyRegister .d .c s)

/-- R121: 0x52 `LD D,D`. -/
def execLdD_D (s : State) : Result := .next (copyRegister .d .d s)

/-- R121: 0x53 `LD D,E`. -/
def execLdD_E (s : State) : Result := .next (copyRegister .d .e s)

/-- R121: 0x54 `LD D,H`. -/
def execLdD_H (s : State) : Result := .next (copyRegister .d .h s)

/-- R121: 0x55 `LD D,L`. -/
def execLdD_L (s : State) : Result := .next (copyRegister .d .l s)

/-- R123: 0x56 `LD D,(HL)`. -/
def execLdD_atHL (s : State) : Result := .next (loadThroughHL .d s)

/-- R121: 0x57 `LD D,A`. -/
def execLdD_A (s : State) : Result := .next (copyRegister .d .a s)

/-- R121: 0x58 `LD E,B`. -/
def execLdE_B (s : State) : Result := .next (copyRegister .e .b s)

/-- R121: 0x59 `LD E,C`. -/
def execLdE_C (s : State) : Result := .next (copyRegister .e .c s)

/-- R121: 0x5A `LD E,D`. -/
def execLdE_D (s : State) : Result := .next (copyRegister .e .d s)

/-- R121: 0x5B `LD E,E`. -/
def execLdE_E (s : State) : Result := .next (copyRegister .e .e s)

/-- R121: 0x5C `LD E,H`. -/
def execLdE_H (s : State) : Result := .next (copyRegister .e .h s)

/-- R121: 0x5D `LD E,L`. -/
def execLdE_L (s : State) : Result := .next (copyRegister .e .l s)

/-- R123: 0x5E `LD E,(HL)`. -/
def execLdE_atHL (s : State) : Result := .next (loadThroughHL .e s)

/-- R121: 0x5F `LD E,A`. -/
def execLdE_A (s : State) : Result := .next (copyRegister .e .a s)

/-- R121: 0x60 `LD H,B`. -/
def execLdH_B (s : State) : Result := .next (copyRegister .h .b s)

/-- R121: 0x61 `LD H,C`. -/
def execLdH_C (s : State) : Result := .next (copyRegister .h .c s)

/-- R121: 0x62 `LD H,D`. -/
def execLdH_D (s : State) : Result := .next (copyRegister .h .d s)

/-- R121: 0x63 `LD H,E`. -/
def execLdH_E (s : State) : Result := .next (copyRegister .h .e s)

/-- R121: 0x64 `LD H,H`. -/
def execLdH_H (s : State) : Result := .next (copyRegister .h .h s)

/-- R121: 0x65 `LD H,L`. -/
def execLdH_L (s : State) : Result := .next (copyRegister .h .l s)

/-- R123: 0x66 `LD H,(HL)`. -/
def execLdH_atHL (s : State) : Result := .next (loadThroughHL .h s)

/-- R121: 0x67 `LD H,A`. -/
def execLdH_A (s : State) : Result := .next (copyRegister .h .a s)

/-- R121: 0x68 `LD L,B`. -/
def execLdL_B (s : State) : Result := .next (copyRegister .l .b s)

/-- R121: 0x69 `LD L,C`. -/
def execLdL_C (s : State) : Result := .next (copyRegister .l .c s)

/-- R121: 0x6A `LD L,D`. -/
def execLdL_D (s : State) : Result := .next (copyRegister .l .d s)

/-- R121: 0x6B `LD L,E`. -/
def execLdL_E (s : State) : Result := .next (copyRegister .l .e s)

/-- R121: 0x6C `LD L,H`. -/
def execLdL_H (s : State) : Result := .next (copyRegister .l .h s)

/-- R121: 0x6D `LD L,L`. -/
def execLdL_L (s : State) : Result := .next (copyRegister .l .l s)

/-- R123: 0x6E `LD L,(HL)`. -/
def execLdL_atHL (s : State) : Result := .next (loadThroughHL .l s)

/-- R121: 0x6F `LD L,A`. -/
def execLdL_A (s : State) : Result := .next (copyRegister .l .a s)

/-- R129: 0x70 `LD (HL),B`. -/
def execLdAtHL_B (s : State) : Result := .next (storeThroughHL .b s)

/-- R129: 0x71 `LD (HL),C`. -/
def execLdAtHL_C (s : State) : Result := .next (storeThroughHL .c s)

/-- R129: 0x72 `LD (HL),D`. -/
def execLdAtHL_D (s : State) : Result := .next (storeThroughHL .d s)

/-- R129: 0x73 `LD (HL),E`. -/
def execLdAtHL_E (s : State) : Result := .next (storeThroughHL .e s)

/-- R129: 0x74 `LD (HL),H`. -/
def execLdAtHL_H (s : State) : Result := .next (storeThroughHL .h s)

/-- R129: 0x75 `LD (HL),L`. -/
def execLdAtHL_L (s : State) : Result := .next (storeThroughHL .l s)

/-- R129: 0x77 `LD (HL),A`. -/
def execLdAtHL_A (s : State) : Result := .next (storeThroughHL .a s)

/-- R121: 0x78 `LD A,B`. -/
def execLdA_B (s : State) : Result := .next (copyRegister .a .b s)

/-- R121: 0x79 `LD A,C`. -/
def execLdA_C (s : State) : Result := .next (copyRegister .a .c s)

/-- R121: 0x7A `LD A,D`. -/
def execLdA_D (s : State) : Result := .next (copyRegister .a .d s)

/-- R121: 0x7B `LD A,E`. -/
def execLdA_E (s : State) : Result := .next (copyRegister .a .e s)

/-- R121: 0x7C `LD A,H`. -/
def execLdA_H (s : State) : Result := .next (copyRegister .a .h s)

/-- R121: 0x7D `LD A,L`. -/
def execLdA_L (s : State) : Result := .next (copyRegister .a .l s)

/-- R123: 0x7E `LD A,(HL)`. -/
def execLdA_atHL (s : State) : Result := .next (loadThroughHL .a s)

/-- R121: 0x7F `LD A,A`. -/
def execLdA_A (s : State) : Result := .next (copyRegister .a .a s)

/-- R133: 0xE0 `LDH (a8),A`. -/
def execLdhAtA8_A (a8 : Byte) (s : State) : Result := .next (storeAccumulator (.high a8) s)

/-- R134: 0xE2 `LD (C),A`. -/
def execLdAtC_A (s : State) : Result := .next (storeAccumulator .highC s)

/-- R132: 0xEA `LD (a16),A`. -/
def execLdAtA16_A (a16 : Word) (s : State) : Result := .next (storeAccumulator (.abs a16) s)

/-- R127: 0xF0 `LDH A,(a8)`. -/
def execLdhA_atA8 (a8 : Byte) (s : State) : Result := .next (loadAccumulator (.high a8) s)

/-- R128: 0xF2 `LD A,(C)`. -/
def execLdA_atC (s : State) : Result := .next (loadAccumulator .highC s)

/-- R126: 0xFA `LD A,(a16)`. -/
def execLdA_atA16 (a16 : Word) (s : State) : Result := .next (loadAccumulator (.abs a16) s)

end Sys2Proof.Machine
end

