-- ==== Sys2Proof/Machine/Dispatch.lean ====
section
/-! DEFINITION. The meaning of every instruction: one arm per constructor. -/

namespace Sys2Proof.Machine

/-- R102, line `h()`: what the handler does to the state the fetch has left. -/
def exec (i : Instr) (s : State) : Host.Outcome State Fault Refusal :=
  match i with
  | .ldBC_d16 d16 => Sys2Proof.Machine.execLdBC_d16 d16 s
  | .ldAtBC_A => Sys2Proof.Machine.execLdAtBC_A s
  | .ldB_d8 d8 => Sys2Proof.Machine.execLdB_d8 d8 s
  | .ldA_atBC => Sys2Proof.Machine.execLdA_atBC s
  | .ldC_d8 d8 => Sys2Proof.Machine.execLdC_d8 d8 s
  | .ldDE_d16 d16 => Sys2Proof.Machine.execLdDE_d16 d16 s
  | .ldAtDE_A => Sys2Proof.Machine.execLdAtDE_A s
  | .ldD_d8 d8 => Sys2Proof.Machine.execLdD_d8 d8 s
  | .ldA_atDE => Sys2Proof.Machine.execLdA_atDE s
  | .ldE_d8 d8 => Sys2Proof.Machine.execLdE_d8 d8 s
  | .ldHL_d16 d16 => Sys2Proof.Machine.execLdHL_d16 d16 s
  | .ldAtHLinc_A => Sys2Proof.Machine.execLdAtHLinc_A s
  | .ldH_d8 d8 => Sys2Proof.Machine.execLdH_d8 d8 s
  | .daa => Sys2Proof.Machine.execDaa s
  | .ldA_atHLinc => Sys2Proof.Machine.execLdA_atHLinc s
  | .ldL_d8 d8 => Sys2Proof.Machine.execLdL_d8 d8 s
  | .ldSP_d16 d16 => Sys2Proof.Machine.execLdSP_d16 d16 s
  | .ldAtHLdec_A => Sys2Proof.Machine.execLdAtHLdec_A s
  | .ldA_atHLdec => Sys2Proof.Machine.execLdA_atHLdec s
  | .ldA_d8 d8 => Sys2Proof.Machine.execLdA_d8 d8 s
  | .ldB_B => Sys2Proof.Machine.execLdB_B s
  | .ldB_C => Sys2Proof.Machine.execLdB_C s
  | .ldB_D => Sys2Proof.Machine.execLdB_D s
  | .ldB_E => Sys2Proof.Machine.execLdB_E s
  | .ldB_H => Sys2Proof.Machine.execLdB_H s
  | .ldB_L => Sys2Proof.Machine.execLdB_L s
  | .ldB_atHL => Sys2Proof.Machine.execLdB_atHL s
  | .ldB_A => Sys2Proof.Machine.execLdB_A s
  | .ldC_B => Sys2Proof.Machine.execLdC_B s
  | .ldC_C => Sys2Proof.Machine.execLdC_C s
  | .ldC_D => Sys2Proof.Machine.execLdC_D s
  | .ldC_E => Sys2Proof.Machine.execLdC_E s
  | .ldC_H => Sys2Proof.Machine.execLdC_H s
  | .ldC_L => Sys2Proof.Machine.execLdC_L s
  | .ldC_atHL => Sys2Proof.Machine.execLdC_atHL s
  | .ldC_A => Sys2Proof.Machine.execLdC_A s
  | .ldD_B => Sys2Proof.Machine.execLdD_B s
  | .ldD_C => Sys2Proof.Machine.execLdD_C s
  | .ldD_D => Sys2Proof.Machine.execLdD_D s
  | .ldD_E => Sys2Proof.Machine.execLdD_E s
  | .ldD_H => Sys2Proof.Machine.execLdD_H s
  | .ldD_L => Sys2Proof.Machine.execLdD_L s
  | .ldD_atHL => Sys2Proof.Machine.execLdD_atHL s
  | .ldD_A => Sys2Proof.Machine.execLdD_A s
  | .ldE_B => Sys2Proof.Machine.execLdE_B s
  | .ldE_C => Sys2Proof.Machine.execLdE_C s
  | .ldE_D => Sys2Proof.Machine.execLdE_D s
  | .ldE_E => Sys2Proof.Machine.execLdE_E s
  | .ldE_H => Sys2Proof.Machine.execLdE_H s
  | .ldE_L => Sys2Proof.Machine.execLdE_L s
  | .ldE_atHL => Sys2Proof.Machine.execLdE_atHL s
  | .ldE_A => Sys2Proof.Machine.execLdE_A s
  | .ldH_B => Sys2Proof.Machine.execLdH_B s
  | .ldH_C => Sys2Proof.Machine.execLdH_C s
  | .ldH_D => Sys2Proof.Machine.execLdH_D s
  | .ldH_E => Sys2Proof.Machine.execLdH_E s
  | .ldH_H => Sys2Proof.Machine.execLdH_H s
  | .ldH_L => Sys2Proof.Machine.execLdH_L s
  | .ldH_atHL => Sys2Proof.Machine.execLdH_atHL s
  | .ldH_A => Sys2Proof.Machine.execLdH_A s
  | .ldL_B => Sys2Proof.Machine.execLdL_B s
  | .ldL_C => Sys2Proof.Machine.execLdL_C s
  | .ldL_D => Sys2Proof.Machine.execLdL_D s
  | .ldL_E => Sys2Proof.Machine.execLdL_E s
  | .ldL_H => Sys2Proof.Machine.execLdL_H s
  | .ldL_L => Sys2Proof.Machine.execLdL_L s
  | .ldL_atHL => Sys2Proof.Machine.execLdL_atHL s
  | .ldL_A => Sys2Proof.Machine.execLdL_A s
  | .ldAtHL_B => Sys2Proof.Machine.execLdAtHL_B s
  | .ldAtHL_C => Sys2Proof.Machine.execLdAtHL_C s
  | .ldAtHL_D => Sys2Proof.Machine.execLdAtHL_D s
  | .ldAtHL_E => Sys2Proof.Machine.execLdAtHL_E s
  | .ldAtHL_H => Sys2Proof.Machine.execLdAtHL_H s
  | .ldAtHL_L => Sys2Proof.Machine.execLdAtHL_L s
  | .ldAtHL_A => Sys2Proof.Machine.execLdAtHL_A s
  | .ldA_B => Sys2Proof.Machine.execLdA_B s
  | .ldA_C => Sys2Proof.Machine.execLdA_C s
  | .ldA_D => Sys2Proof.Machine.execLdA_D s
  | .ldA_E => Sys2Proof.Machine.execLdA_E s
  | .ldA_H => Sys2Proof.Machine.execLdA_H s
  | .ldA_L => Sys2Proof.Machine.execLdA_L s
  | .ldA_atHL => Sys2Proof.Machine.execLdA_atHL s
  | .ldA_A => Sys2Proof.Machine.execLdA_A s
  | .addA_B => Sys2Proof.Machine.execAddA_B s
  | .addA_C => Sys2Proof.Machine.execAddA_C s
  | .addA_D => Sys2Proof.Machine.execAddA_D s
  | .addA_E => Sys2Proof.Machine.execAddA_E s
  | .addA_H => Sys2Proof.Machine.execAddA_H s
  | .addA_L => Sys2Proof.Machine.execAddA_L s
  | .addA_atHL => Sys2Proof.Machine.execAddA_atHL s
  | .addA_A => Sys2Proof.Machine.execAddA_A s
  | .adcA_B => Sys2Proof.Machine.execAdcA_B s
  | .adcA_C => Sys2Proof.Machine.execAdcA_C s
  | .adcA_D => Sys2Proof.Machine.execAdcA_D s
  | .adcA_E => Sys2Proof.Machine.execAdcA_E s
  | .adcA_H => Sys2Proof.Machine.execAdcA_H s
  | .adcA_L => Sys2Proof.Machine.execAdcA_L s
  | .adcA_atHL => Sys2Proof.Machine.execAdcA_atHL s
  | .adcA_A => Sys2Proof.Machine.execAdcA_A s
  | .subA_B => Sys2Proof.Machine.execSubA_B s
  | .subA_C => Sys2Proof.Machine.execSubA_C s
  | .subA_D => Sys2Proof.Machine.execSubA_D s
  | .subA_E => Sys2Proof.Machine.execSubA_E s
  | .subA_H => Sys2Proof.Machine.execSubA_H s
  | .subA_L => Sys2Proof.Machine.execSubA_L s
  | .subA_atHL => Sys2Proof.Machine.execSubA_atHL s
  | .subA_A => Sys2Proof.Machine.execSubA_A s
  | .sbcA_B => Sys2Proof.Machine.execSbcA_B s
  | .sbcA_C => Sys2Proof.Machine.execSbcA_C s
  | .sbcA_D => Sys2Proof.Machine.execSbcA_D s
  | .sbcA_E => Sys2Proof.Machine.execSbcA_E s
  | .sbcA_H => Sys2Proof.Machine.execSbcA_H s
  | .sbcA_L => Sys2Proof.Machine.execSbcA_L s
  | .sbcA_atHL => Sys2Proof.Machine.execSbcA_atHL s
  | .sbcA_A => Sys2Proof.Machine.execSbcA_A s
  | .andA_B => Sys2Proof.Machine.execAndA_B s
  | .andA_C => Sys2Proof.Machine.execAndA_C s
  | .andA_D => Sys2Proof.Machine.execAndA_D s
  | .andA_E => Sys2Proof.Machine.execAndA_E s
  | .andA_H => Sys2Proof.Machine.execAndA_H s
  | .andA_L => Sys2Proof.Machine.execAndA_L s
  | .andA_atHL => Sys2Proof.Machine.execAndA_atHL s
  | .andA_A => Sys2Proof.Machine.execAndA_A s
  | .xorA_B => Sys2Proof.Machine.execXorA_B s
  | .xorA_C => Sys2Proof.Machine.execXorA_C s
  | .xorA_D => Sys2Proof.Machine.execXorA_D s
  | .xorA_E => Sys2Proof.Machine.execXorA_E s
  | .xorA_H => Sys2Proof.Machine.execXorA_H s
  | .xorA_L => Sys2Proof.Machine.execXorA_L s
  | .xorA_atHL => Sys2Proof.Machine.execXorA_atHL s
  | .xorA_A => Sys2Proof.Machine.execXorA_A s
  | .orA_B => Sys2Proof.Machine.execOrA_B s
  | .orA_C => Sys2Proof.Machine.execOrA_C s
  | .orA_D => Sys2Proof.Machine.execOrA_D s
  | .orA_E => Sys2Proof.Machine.execOrA_E s
  | .orA_H => Sys2Proof.Machine.execOrA_H s
  | .orA_L => Sys2Proof.Machine.execOrA_L s
  | .orA_atHL => Sys2Proof.Machine.execOrA_atHL s
  | .orA_A => Sys2Proof.Machine.execOrA_A s
  | .cpA_B => Sys2Proof.Machine.execCpA_B s
  | .cpA_C => Sys2Proof.Machine.execCpA_C s
  | .cpA_D => Sys2Proof.Machine.execCpA_D s
  | .cpA_E => Sys2Proof.Machine.execCpA_E s
  | .cpA_H => Sys2Proof.Machine.execCpA_H s
  | .cpA_L => Sys2Proof.Machine.execCpA_L s
  | .cpA_atHL => Sys2Proof.Machine.execCpA_atHL s
  | .cpA_A => Sys2Proof.Machine.execCpA_A s
  | .popBC => Sys2Proof.Machine.execPopBC s
  | .pushBC => Sys2Proof.Machine.execPushBC s
  | .addA_d8 d8 => Sys2Proof.Machine.execAddA_d8 d8 s
  | .adcA_d8 d8 => Sys2Proof.Machine.execAdcA_d8 d8 s
  | .popDE => Sys2Proof.Machine.execPopDE s
  | .pushDE => Sys2Proof.Machine.execPushDE s
  | .subA_d8 d8 => Sys2Proof.Machine.execSubA_d8 d8 s
  | .sbcA_d8 d8 => Sys2Proof.Machine.execSbcA_d8 d8 s
  | .ldhAtA8_A a8 => Sys2Proof.Machine.execLdhAtA8_A a8 s
  | .popHL => Sys2Proof.Machine.execPopHL s
  | .ldAtC_A => Sys2Proof.Machine.execLdAtC_A s
  | .pushHL => Sys2Proof.Machine.execPushHL s
  | .andA_d8 d8 => Sys2Proof.Machine.execAndA_d8 d8 s
  | .ldAtA16_A a16 => Sys2Proof.Machine.execLdAtA16_A a16 s
  | .xorA_d8 d8 => Sys2Proof.Machine.execXorA_d8 d8 s
  | .ldhA_atA8 a8 => Sys2Proof.Machine.execLdhA_atA8 a8 s
  | .popAF => Sys2Proof.Machine.execPopAF s
  | .ldA_atC => Sys2Proof.Machine.execLdA_atC s
  | .pushAF => Sys2Proof.Machine.execPushAF s
  | .orA_d8 d8 => Sys2Proof.Machine.execOrA_d8 d8 s
  | .ldA_atA16 a16 => Sys2Proof.Machine.execLdA_atA16 a16 s
  | .cpA_d8 d8 => Sys2Proof.Machine.execCpA_d8 d8 s
  | .unmapped op => Sys2Proof.Machine.execUnmapped op s

end Sys2Proof.Machine
end

