-- ==== Sys2Proof/Machine/Step.lean ====
section
/-! DEFINITION. One step (41_dispatch.md R102), and the host's way of placing one instruction. -/

namespace Sys2Proof.Machine

/-- R102 with the parameters as an argument: in `FAULT` nothing happens (R111); in `RUN` fetch, decode, execute,
account. -/
def stepWith (P : Params) (s : State) : Host.Outcome State Fault Refusal :=
  match s.status with
  | .fault => .next s
  | .run =>
    match exec s.fetchInstr.1 s.fetchInstr.2 with
    | .next t => .next (account P s.fetchInstr.1 t)
    | .fault r => .fault r
    | .refused r => .refused r

/-- R100, R102: `fetch_and_execute()` on the hardware. -/
def step (s : State) : Host.Outcome State Fault Refusal := stepWith hardwareParams s

/-- `s` with the instruction of a table word stored at `PC` (three bytes, the longest instruction; the bits from
`nbits` on are zero) and the status `RUN`, so that the next step fetches and runs it. It stands for the host's building
of `MEM_INIT` and its reset (R112, R223; assumption 12). -/
def State.withFetchWord (s : State) (nbits w : Nat) : State :=
  let v := w % 2 ^ nbits
  let s0 : State := { s with status := .run, faultInfo := none }
  ((s0.writeByte s.pc (BitVec.ofNat 8 v)).writeByte (s.pc + 1#16) (BitVec.ofNat 8 (v / 256))).writeByte
    (s.pc + 2#16) (BitVec.ofNat 8 (v / 65536))

end Sys2Proof.Machine
end

