-- ==== Sys2Proof/Machine/Port.lean ====
section
/-! DEFINITION. What the outside sees and does: the memory port's transactions of a step in their order (20_memory.md
R43, R57 and the interface table) and the moves the host has (41_dispatch.md R112). The transactions are computed from
the state beside the step; memory is passive (R41), so they are no state. -/

namespace Sys2Proof.Machine

/-- R43: one transaction of the memory port: a byte read with the reply, or a byte written. -/
inductive Access where
  | read (a : Word) (v : Byte)
  | write (a : Word) (v : Byte)
deriving DecidableEq, Repr

/-- A read of the byte a state holds at an address. -/
def State.readAccess (s : State) (a : Word) : Access := .read a (s.readByte a)

/-- R57, R121 to R185: the data accesses of an instruction on the state after its fetches, in order. -/
def dataAccesses (i : Instr) (s : State) : List Access :=
  match i.form with
  | .copy _ _ => []
  | .loadImm _ _ => []
  | .loadHL _ => [s.readAccess s.hl]
  | .load m => [s.readAccess (s.address m)]
  | .storeHL src => [.write s.hl (s.getR8 src)]
  | .store m => [.write (s.address m) s.a]
  | .storePost _ => [.write s.hl s.a]
  | .loadPost _ => [s.readAccess s.hl]
  | .load16 _ _ => []
  | .push src => [.write (s.sp - 1#16) (hiByte (s.getPair src)), .write (s.sp - 2#16) (loByte (s.getPair src))]
  | .pushAF => [.write (s.sp - 1#16) s.a, .write (s.sp - 2#16) s.f.toByte]
  | .pop _ => [s.readAccess s.sp, s.readAccess (s.sp + 1#16)]
  | .popAF => [s.readAccess s.sp, s.readAccess (s.sp + 1#16)]
  | .alu _ (.reg _) => []
  | .alu _ .atHL => [s.readAccess s.hl]
  | .alu _ (.imm _) => []
  | .daa => []
  | .unmapped _ => []

/-- R103: the reads of the first `n` bytes of the program stream. -/
def fetchAccesses (s : State) : Nat → List Access
  | 0 => []
  | n + 1 => s.readAccess s.pc :: fetchAccesses s.fetch8.2 n

/-- R57, R102, R111: the transactions of one step: the opcode fetch, the immediate fetches, the data accesses; none
in `FAULT`. -/
def stepAccesses (s : State) : List Access :=
  match s.status with
  | .fault => []
  | .run => fetchAccesses s s.fetchInstr.1.length ++ dataAccesses s.fetchInstr.1 s.fetchInstr.2

/-- R112: the moves of the host that change the core: reset (construction) and a step request. It has no move that
writes memory (R51). -/
inductive HostMove where
  | reset (r : ResetState)
  | step
deriving DecidableEq, Repr

/-- R112, R220: what the core answers to a move. -/
def respond (s : State) : HostMove → Host.Outcome State Fault Refusal
  | .reset r => .next (State.resetTo r s)
  | .step => step s

end Sys2Proof.Machine
end

