-- ==== Sys2Proof/WellFormed.lean ====
section
/-! DEFINITION. Which terms of `Instr` are instructions: a check that the operand types do not make already. -/

namespace Sys2Proof

/-- R70: `unmapped op` stands for a byte with no table entry, so a mapped byte in it is ill-formed. Every other
constructor is well-formed with every operand: R72, every bit of an immediate is used and no field is reserved. -/
def Form.wellFormed : Form → Bool
  | .unmapped op => (table op).isNone
  | .copy _ _ | .loadImm _ _ | .loadHL _ | .load _ | .storeHL _ | .store _ | .storePost _ | .loadPost _ | .load16 _ _
  | .push _ | .pushAF | .pop _ | .popAF | .alu _ _ | .daa => true

/-- A well-formed instruction. -/
abbrev Instr.WellFormed (i : Instr) : Prop := i.form.wellFormed = true

end Sys2Proof
end

