-- ==== Sys2Proof/Safety.lean ====
section
/-! DEFINITION. The terms the statements use: a safe run, the invariant of the machine, and what "unchanged" means. -/

namespace Sys2Proof.Safety

open Sys2Proof.Machine

/-- R111, R113: a state that has not gone wrong. A state in `FAULT` is never a normal end of a run. -/
def Safe (s : State) : Prop := s.status = .run

/-- R113: `k` steps from `s` end, and end safely. -/
def SafeRun (k : Nat) (s : State) : Prop := ∃ t, Host.Core.run Sys2Proof.core k s = .next t ∧ Safe t

/-- What the fault latch says (R28, R202, R203): nothing is latched exactly in `RUN`; and a latched pair holds a byte
with no table entry, the `PC` the core stopped at, and that byte still stands just before that `PC`. -/
def LatchConsistent (s : State) : Prop :=
  (s.status = .run ↔ s.faultInfo = none) ∧
    ∀ fi, s.faultInfo = some fi →
      fi.pc = s.pc ∧ table fi.opcode = none ∧ s.readByte (fi.pc - 1#16) = fi.opcode

/-- The invariant of the machine: memory in its canonical form, the cycle counter below the frame budget (R10, R27),
and the fault latch consistent. -/
def Inv (s : State) : Prop :=
  Memory.wf s.mem ∧ s.cyc < paramFrame hardwareParams ∧ LatchConsistent s

/-- Every byte of memory reads as before. -/
def MemorySame (s t : State) : Prop := ∀ a : Word, t.readByte a = s.readByte a

/-- Every byte of memory outside the addresses of a list reads as before. -/
def MemorySameOutside (addrs : List Word) (s t : State) : Prop :=
  ∀ a : Word, a ∉ addrs → t.readByte a = s.readByte a

/-- Each of the seven 8-bit registers outside a list holds what it held. -/
def RegistersSameExcept (rs : List R8) (s t : State) : Prop := ∀ r, r ∉ rs → t.getR8 r = s.getR8 r

/-- What no handler but the fatal stop writes: `PC`, `cyc`, the status and the fault latch are as before. -/
def ControlSame (s t : State) : Prop :=
  t.pc = s.pc ∧ t.cyc = s.cyc ∧ t.status = s.status ∧ t.faultInfo = s.faultInfo

/-- R160(d): what an ALU instruction leaves: every register but `A`, `SP`, the control state and all of memory. -/
def OnlyAccumulatorAndFlags (s t : State) : Prop :=
  RegistersSameExcept [.a] s t ∧ t.sp = s.sp ∧ ControlSame s t ∧ MemorySame s t

/-- What a load, store or stack instruction leaves beside memory (R120, R150): every 8-bit register outside a list, the
flags and the control state. -/
def OnlyRegisters (rs : List R8) (s t : State) : Prop :=
  RegistersSameExcept rs s t ∧ t.f = s.f ∧ ControlSame s t

/-- The two halves of a pair (R16). -/
def halves : Pair → List R8
  | .bc => [.b, .c]
  | .de => [.d, .e]
  | .hl => [.h, .l]

/-- The 8-bit registers that a 16-bit destination overlaps: none for `SP` (R20). -/
def halves16 : Reg16 → List R8
  | .bc => [.b, .c]
  | .de => [.d, .e]
  | .hl => [.h, .l]
  | .sp => []

/-- The data addresses as R124 to R128 and R130 to R134 print them, the high page as `0xFF00 | n` (R67). -/
def specAddress (s : State) : Mode → Word
  | .bc => s.bc
  | .de => s.de
  | .abs a16 => a16
  | .high a8 => 0xFF00#16 ||| a8.setWidth 16
  | .highC => 0xFF00#16 ||| (s.getR8 .c).setWidth 16

/-- The second operand as R160(a) prints it. -/
def specOperand (s : State) : Src → Byte
  | .reg r => s.getR8 r
  | .atHL => s.readByte s.hl
  | .imm d8 => d8

/-- R124 to R128, lines Encoding: the bytes of an accumulator load. -/
def loadBytes : Mode → List Byte
  | .bc => [0x0A]
  | .de => [0x1A]
  | .abs a16 => [0xFA, loByte a16, hiByte a16]
  | .high a8 => [0xF0, a8]
  | .highC => [0xF2]

/-- R130 to R134, lines Encoding: the bytes of an accumulator store. -/
def storeBytes : Mode → List Byte
  | .bc => [0x02]
  | .de => [0x12]
  | .abs a16 => [0xEA, loByte a16, hiByte a16]
  | .high a8 => [0xE0, a8]
  | .highC => [0xE2]

/-- R160(f): the bytes of an ALU instruction from its operation code `y`. -/
def aluBytes (y : Nat) : Src → List Byte
  | .reg r => [BitVec.ofNat 8 (0x80 + 8 * y + r.code.toNat)]
  | .atHL => [BitVec.ofNat 8 (0x86 + 8 * y)]
  | .imm d8 => [BitVec.ofNat 8 (0xC6 + 8 * y), d8]

/-- R93: `bcd(k)`, two packed decimal digits. -/
def bcd (k : Nat) : Byte := BitVec.ofNat 8 (k / 10 * 16 + k % 10)

/-- R70: the 87 unmapped bytes, in the order of its table. -/
def bytesOfR70 : List Byte :=
  [0x00, 0x10, 0x76, 0x03, 0x13, 0x23, 0x33, 0x0B, 0x1B, 0x2B, 0x3B] ++
  [0x04, 0x0C, 0x14, 0x1C, 0x24, 0x2C, 0x34, 0x3C, 0x05, 0x0D, 0x15, 0x1D, 0x25, 0x2D, 0x35, 0x3D] ++
  [0x07, 0x0F, 0x17, 0x1F, 0x2F, 0x37, 0x3F, 0x08, 0x36, 0x09, 0x19, 0x29, 0x39, 0xE8, 0xF8, 0xF9] ++
  [0x18, 0x20, 0x28, 0x30, 0x38, 0xC3, 0xC2, 0xCA, 0xD2, 0xDA, 0xE9, 0xCD, 0xC4, 0xCC, 0xD4, 0xDC] ++
  [0xC9, 0xC0, 0xC8, 0xD0, 0xD8, 0xD9, 0xC7, 0xCF, 0xD7, 0xDF, 0xE7, 0xEF, 0xF7, 0xFF, 0xCB, 0xF3, 0xFB] ++
  [0xD3, 0xDB, 0xDD, 0xE3, 0xE4, 0xEB, 0xEC, 0xED, 0xF4, 0xFC, 0xFD]

/-- R68: the length by opcode byte. An unmapped byte is fetched alone. -/
def lengthOfR68 (op : Byte) : Nat :=
  if op ∈ ([0x01, 0x11, 0x21, 0x31, 0xEA, 0xFA] : List Byte) then 3
  else if op ∈ ([0x06, 0x0E, 0x16, 0x1E, 0x26, 0x2E, 0x3E, 0xC6, 0xCE, 0xD6, 0xDE, 0xE6, 0xEE, 0xF6, 0xFE, 0xE0,
    0xF0] : List Byte) then 2
  else 1

/-- A memory-port transaction applied to a state: a write stores its byte, a read changes nothing (R41, R42). -/
def replay (s : State) : Access → State
  | .read _ _ => s
  | .write a v => s.writeByte a v

/-- Whether a transaction is a write. -/
def isWrite : Access → Bool
  | .read _ _ => false
  | .write _ _ => true

end Sys2Proof.Safety
end

