-- ==== Sys2Proof/Certificates/Slice0/Obligations.lean ====
section
/-! DEFINITION. The statements about the model, from the spec's numbered rules. Those about one instruction form speak
of every constructor whose `Instr.form` is that form, of every state, and of every operand; each gives the bytes of the
instruction as its rule prints them, and concludes that `exec` answers a next state and says all of it: the new values
and the frame. -/

open Sys2Proof Sys2Proof.Machine Sys2Proof.Safety

/-! ### The value primitives, the flags, the register views, memory -/

/-- R6, R7, R8: a Word and its two bytes, in arithmetic; the high-page address; the two printed examples. -/
def Obligations.WordSplitsAndComposes : Prop :=
  (∀ w : Word, (loByte w).toNat = w.toNat % 256 ∧ (hiByte w).toNat = w.toNat / 256 ∧
    w = (loByte w).setWidth 16 ||| ((hiByte w).setWidth 16 <<< 8)) ∧
  (∀ first second : Byte, (wordLe first second).toNat = first.toNat + 256 * second.toNat) ∧
  (∀ high low : Byte, (makeAddress high low).toNat = 256 * high.toNat + low.toNat) ∧
  (∀ n : Byte, makeAddress 0xFF#8 n = 0xFF00#16 ||| n.setWidth 16) ∧
  wordLe 0x34#8 0x12#8 = 0x1234#16 ∧ makeAddress 0xFF#8 0x80#8 = 0xFF80#16

/-- R14: `to_byte` in arithmetic, `from_byte` bit by bit, and both round trips. -/
def Obligations.FlagByteRoundTrip : Prop :=
  (∀ f : Flags, f.toByte.toNat = 128 * f.z.toNat + 64 * f.n.toNat + 32 * f.h.toNat + 16 * f.c.toNat) ∧
  (∀ b : Byte, (Flags.fromByte b).z = b.getLsbD 7 ∧ (Flags.fromByte b).n = b.getLsbD 6 ∧
    (Flags.fromByte b).h = b.getLsbD 5 ∧ (Flags.fromByte b).c = b.getLsbD 4) ∧
  (∀ b : Byte, (Flags.fromByte b).toByte = b &&& 0xF0#8) ∧
  (∀ f : Flags, Flags.fromByte f.toByte = f)

/-- R17, R19: the halves and the word of a pair are views of one storage. -/
def Obligations.PairViewsShareStorage : Prop :=
  (∀ (s : State) (r r' : R8) (v : Byte), (s.setR8 r v).getR8 r' = if r' = r then v else s.getR8 r') ∧
  (∀ s : State, s.bc = makeAddress (s.getR8 .b) (s.getR8 .c) ∧ s.de = makeAddress (s.getR8 .d) (s.getR8 .e) ∧
    s.hl = makeAddress (s.getR8 .h) (s.getR8 .l)) ∧
  (∀ (s : State) (v : Byte),
    (s.setR8 .b v).bc.toNat = 256 * v.toNat + s.bc.toNat % 256 ∧
    (s.setR8 .c v).bc.toNat = 256 * (s.bc.toNat / 256) + v.toNat ∧
    (s.setR8 .d v).de.toNat = 256 * v.toNat + s.de.toNat % 256 ∧
    (s.setR8 .e v).de.toNat = 256 * (s.de.toNat / 256) + v.toNat ∧
    (s.setR8 .h v).hl.toNat = 256 * v.toNat + s.hl.toNat % 256 ∧
    (s.setR8 .l v).hl.toNat = 256 * (s.hl.toNat / 256) + v.toNat) ∧
  (∀ (s : State) (w : Word),
    (s.setPair .bc w).getR8 .b = hiByte w ∧ (s.setPair .bc w).getR8 .c = loByte w ∧
    (s.setPair .de w).getR8 .d = hiByte w ∧ (s.setPair .de w).getR8 .e = loByte w ∧
    (s.setPair .hl w).getR8 .h = hiByte w ∧ (s.setPair .hl w).getR8 .l = loByte w)

/-- R42: the byte written is the byte read, and every other byte and every other element stay. -/
def Obligations.MemoryByteWrittenIsRead : Prop :=
  ∀ (s : State) (a : Word) (v : Byte),
    (s.writeByte a v).readByte a = v ∧ MemorySameOutside [a] s (s.writeByte a v) ∧
      { s.writeByte a v with mem := s.mem } = s

/-- Derived (assumption 2): the canonical form is one. Two memories in it that read alike at every address of R40 are
the same list. -/
def Obligations.EqualReadsGiveEqualMemories : Prop :=
  ∀ m m' : Memory, Memory.wf m → Memory.wf m' → (∀ a, a < 65536 → m.read a = m'.read a) → m = m'

/-! ### The ALU -/

/-- R82, R88: `add_W` for both widths, in KG's masks and comparisons. -/
def Obligations.AdditionFollowsItsFormulas : Prop :=
  (∀ (a b : BitVec 8) (cin : Bool),
    (addW a b cin).1 = a + b + BitVec.ofNat 8 cin.toNat ∧
    (addW a b cin).2.z = decide ((addW a b cin).1 = 0#8) ∧ (addW a b cin).2.n = false ∧
    (addW a b cin).2.h = decide ((a &&& 0xF#8).toNat + (b &&& 0xF#8).toNat + cin.toNat > 0xF) ∧
    (addW a b cin).2.c = decide (a.toNat + b.toNat + cin.toNat > 0xFF)) ∧
  (∀ (a b : BitVec 16) (cin : Bool),
    (addW a b cin).1 = a + b + BitVec.ofNat 16 cin.toNat ∧
    (addW a b cin).2.z = decide ((addW a b cin).1 = 0#16) ∧ (addW a b cin).2.n = false ∧
    (addW a b cin).2.h = decide ((a &&& 0xFF#16).toNat + (b &&& 0xFF#16).toNat + cin.toNat > 0xFF) ∧
    (addW a b cin).2.c = decide (a.toNat + b.toNat + cin.toNat > 0xFFFF))

/-- Derived from R83 and R88 (the spec derives the formulas from R82): `sub_W` for both widths; both borrows compare
unwrapped sums. -/
def Obligations.SubtractionFollowsItsFormulas : Prop :=
  (∀ (a b : BitVec 8) (cin : Bool),
    (subW a b cin).1 = a - b - BitVec.ofNat 8 cin.toNat ∧
    (subW a b cin).2.z = decide ((subW a b cin).1 = 0#8) ∧ (subW a b cin).2.n = true ∧
    (subW a b cin).2.h = decide ((a &&& 0xF#8).toNat < (b &&& 0xF#8).toNat + cin.toNat) ∧
    (subW a b cin).2.c = decide (a.toNat < b.toNat + cin.toNat)) ∧
  (∀ (a b : BitVec 16) (cin : Bool),
    (subW a b cin).1 = a - b - BitVec.ofNat 16 cin.toNat ∧
    (subW a b cin).2.z = decide ((subW a b cin).1 = 0#16) ∧ (subW a b cin).2.n = true ∧
    (subW a b cin).2.h = decide ((a &&& 0xFF#16).toNat < (b &&& 0xFF#16).toNat + cin.toNat) ∧
    (subW a b cin).2.c = decide (a.toNat < b.toNat + cin.toNat))

/-- R84, R85, R86: the bitwise operations and their four flags. -/
def Obligations.BitwiseOperationsFollowTheirFormulas : Prop :=
  ∀ a b : Byte,
    andByte a b = (a &&& b, ⟨decide (a &&& b = 0#8), false, true, false⟩) ∧
    orByte a b = (a ||| b, ⟨decide (a ||| b = 0#8), false, false, false⟩) ∧
    xorByte a b = (a ^^^ b, ⟨decide (a ^^^ b = 0#8), false, false, false⟩)

/-- Derived from R92 (the spec derives it from R82 to R86): subtraction as a comparison, addition commutes, subtraction
against addition of the complement with both carries inverted, and the idempotent operations. -/
def Obligations.AluAlgebraicFacts : Prop :=
  (∀ a b : Byte, ((subW a b false).2.z = true ↔ a = b) ∧ ((subW a b false).2.c = true ↔ a.toNat < b.toNat)) ∧
  (∀ (a b : Byte) (cin : Bool), addW a b cin = addW b a cin) ∧
  (∀ (a b : Byte) (cin : Bool),
    (subW a b cin).1 = (addW a (~~~b) (!cin)).1 ∧
    (subW a b cin).2.h = !(addW a (~~~b) (!cin)).2.h ∧ (subW a b cin).2.c = !(addW a (~~~b) (!cin)).2.c) ∧
  (∀ a : Byte, (andByte a a).1 = a ∧ (orByte a a).1 = a)

/-- Derived from R93 (the carry-in half is the spec's own derivation; the thresholds are D5, assumption 8): the decimal
ground truth of `decimal_adjust`, for every pair of two-digit numbers and both carries in. -/
def Obligations.DecimalAdjustMeetsDecimalGroundTruth : Prop :=
  ∀ (i j : Nat) (cin : Bool), i < 100 → j < 100 →
    (let sum := addW (bcd i) (bcd j) cin
     let d := decimalAdjust sum.1 sum.2
     d.1 = bcd ((i + j + cin.toNat) % 100) ∧ d.2.c = decide (i + j + cin.toNat > 99) ∧ d.2.h = false ∧
       d.2.z = decide (d.1 = 0#8)) ∧
    (let diff := subW (bcd i) (bcd j) cin
     let d := decimalAdjust diff.1 diff.2
     d.1 = bcd (((i : Int) - j - cin.toNat) % 100).toNat ∧ d.2.c = decide (i < j + cin.toNat) ∧ d.2.h = false ∧
       d.2.z = decide (d.1 = 0#8))

/-! ### Encoding -/

/-- R76: the four encodings KG states. -/
def Obligations.NamedOpcodesDecode : Prop :=
  (∀ (d8 : Byte) (rest : List Byte), decode (0x3E#8 :: d8 :: rest) = .ok (.ldA_d8 d8, rest)) ∧
  (∀ rest : List Byte, decode (0x87#8 :: rest) = .ok (.addA_A, rest) ∧ decode (0xF5#8 :: rest) = .ok (.pushAF, rest) ∧
    decode (0xF1#8 :: rest) = .ok (.popAF, rest))

/-- Derived from R61 to R69 and V30: a word of each family, written out in fields. -/
def Obligations.WrittenOutWordsDecode : Prop :=
  decode [0b01000001#8] = .ok (.ldB_C, []) ∧
  decode [0b00000110#8, 0x5A#8] = .ok (.ldB_d8 0x5A#8, []) ∧
  decode [0b01111110#8] = .ok (.ldA_atHL, []) ∧
  decode [0b01110000#8] = .ok (.ldAtHL_B, []) ∧
  decode [0b11101010#8, 0x34#8, 0xC2#8] = .ok (.ldAtA16_A 0xC234#16, []) ∧
  decode [0b11110000#8, 0x80#8] = .ok (.ldhA_atA8 0x80#8, []) ∧
  decode [0b00111010#8] = .ok (.ldA_atHLdec, []) ∧
  decode [0b00110001#8, 0xFE#8, 0xFF#8] = .ok (.ldSP_d16 0xFFFE#16, []) ∧
  decode [0b11000101#8] = .ok (.pushBC, []) ∧
  decode [0b11010001#8] = .ok (.popDE, []) ∧
  decode [0b10111110#8] = .ok (.cpA_atHL, []) ∧
  decode [0b11011110#8, 0x3A#8] = .ok (.sbcA_d8 0x3A#8, []) ∧
  decode [0b00100111#8] = .ok (.daa, []) ∧
  decode [0b01110110#8] = .ok (.unmapped 0x76#8, [])

/-- R70: the bytes without a table entry are exactly the 87 of R70's table, no byte is listed twice, and each decodes
to `unmapped` whatever follows. -/
def Obligations.UnmappedBytesAreExactlyThose : Prop :=
  (∀ op : Byte, table op = none ↔ op ∈ bytesOfR70) ∧ bytesOfR70.length = 87 ∧ bytesOfR70.Nodup ∧
  (∀ (op : Byte) (rest : List Byte), op ∈ bytesOfR70 → decode (op :: rest) = .ok (.unmapped op, rest))

/-- Derived from R68 and R102: the opcode byte alone fixes the length. R68 gives an unmapped opcode no length; the 1 of an
`unmapped` instruction is the model's choice (assumption 11), the one byte the step fetches before it stops. -/
def Obligations.LengthIsFixedByTheOpcode : Prop :=
  ∀ i : Instr, i.WellFormed →
    i.length = lengthOfR68 i.form.opcode ∧ (encode i).length = i.length ∧ (encode i).head? = some i.form.opcode

/-- Derived from R60 to R69: decoding the bytes of a well-formed instruction gives it back, with every operand, and
leaves what follows. -/
def Obligations.DecodeInvertsEncode : Prop :=
  ∀ (i : Instr) (rest : List Byte), i.WellFormed → decode (encode i ++ rest) = .ok (i, rest)

/-- Derived from R72 and R75: a decoded instruction is well-formed, and its bytes are the ones decoded, so no two byte
strings decode to one instruction. -/
def Obligations.EncodeInvertsDecode : Prop :=
  ∀ (bytes rest : List Byte) (i : Instr), decode bytes = .ok (i, rest) → i.WellFormed ∧ bytes = encode i ++ rest

/-! ### 8-bit loads, stores and copies -/

/-- R121: `LD r,r'`. -/
def Obligations.RegisterCopyMovesOneRegister : Prop :=
  ∀ (i : Instr) (dst src : R8) (s : State), i.form = .copy dst src →
    encode i = [0b01#2 ++ dst.code ++ src.code] ∧
    ∃ t, exec i s = .next t ∧ t.getR8 dst = s.getR8 src ∧
      OnlyRegisters [dst] s t ∧ t.sp = s.sp ∧ MemorySame s t

/-- R122: `LD r,d8`. -/
def Obligations.LoadImmediateSetsOneRegister : Prop :=
  ∀ (i : Instr) (dst : R8) (d8 : Byte) (s : State), i.form = .loadImm dst d8 →
    encode i = [0b00#2 ++ dst.code ++ 0b110#3, d8] ∧
    ∃ t, exec i s = .next t ∧ t.getR8 dst = d8 ∧ OnlyRegisters [dst] s t ∧ t.sp = s.sp ∧ MemorySame s t

/-- R123: `LD r,(HL)`; the address is `HL` before the write. -/
def Obligations.LoadThroughHLReadsTheOldAddress : Prop :=
  ∀ (i : Instr) (dst : R8) (s : State), i.form = .loadHL dst →
    encode i = [0b01#2 ++ dst.code ++ 0b110#3] ∧
    ∃ t, exec i s = .next t ∧ t.getR8 dst = s.readByte s.hl ∧
      OnlyRegisters [dst] s t ∧ t.sp = s.sp ∧ MemorySame s t

/-- R124 to R128: the loads of the accumulator. -/
def Obligations.AccumulatorLoadsReadTheirAddress : Prop :=
  ∀ (i : Instr) (m : Mode) (s : State), i.form = .load m →
    encode i = loadBytes m ∧
    ∃ t, exec i s = .next t ∧ t.a = s.readByte (specAddress s m) ∧
      OnlyRegisters [.a] s t ∧ t.sp = s.sp ∧ MemorySame s t

/-- R129: `LD (HL),r`. -/
def Obligations.StoreThroughHLWritesOneByte : Prop :=
  ∀ (i : Instr) (src : R8) (s : State), i.form = .storeHL src →
    encode i = [0b01#2 ++ 0b110#3 ++ src.code] ∧
    ∃ t, exec i s = .next t ∧ t.readByte s.hl = s.getR8 src ∧ MemorySameOutside [s.hl] s t ∧
      OnlyRegisters [] s t ∧ t.sp = s.sp

/-- R130 to R134: the stores of the accumulator. -/
def Obligations.AccumulatorStoresWriteTheirAddress : Prop :=
  ∀ (i : Instr) (m : Mode) (s : State), i.form = .store m →
    encode i = storeBytes m ∧
    ∃ t, exec i s = .next t ∧ s.address m = specAddress s m ∧ t.readByte (s.address m) = s.a ∧
      MemorySameOutside [s.address m] s t ∧ OnlyRegisters [] s t ∧ t.sp = s.sp

/-- R135, R137: store at `HL`, then `HL` moves by one, modulo 2^16. -/
def Obligations.PostModifyStoresMoveHL : Prop :=
  ∀ (i : Instr) (p : Post) (s : State), i.form = .storePost p →
    encode i = (if p = .inc then [0x22#8] else [0x32#8]) ∧
    ∃ t, exec i s = .next t ∧ t.readByte s.hl = s.a ∧ MemorySameOutside [s.hl] s t ∧
      (p = .inc → t.hl = s.hl + 1#16) ∧ (p = .dec → t.hl = s.hl - 1#16) ∧
      OnlyRegisters [.h, .l] s t ∧ t.sp = s.sp

/-- R136, R138: load from `HL`, then `HL` moves by one, modulo 2^16. -/
def Obligations.PostModifyLoadsMoveHL : Prop :=
  ∀ (i : Instr) (p : Post) (s : State), i.form = .loadPost p →
    encode i = (if p = .inc then [0x2A#8] else [0x3A#8]) ∧
    ∃ t, exec i s = .next t ∧ t.a = s.readByte s.hl ∧
      (p = .inc → t.hl = s.hl + 1#16) ∧ (p = .dec → t.hl = s.hl - 1#16) ∧
      OnlyRegisters [.a, .h, .l] s t ∧ t.sp = s.sp ∧ MemorySame s t

/-! ### 16-bit immediate loads and the stack -/

/-- R151: `LD rr,d16`; for a pair the two halves are written together. -/
def Obligations.LoadImmediate16SetsTheDestination : Prop :=
  ∀ (i : Instr) (dst : Reg16) (d16 : Word) (s : State), i.form = .load16 dst d16 →
    encode i = [0b00#2 ++ dst.code ++ 0b0001#4, loByte d16, hiByte d16] ∧
    ∃ t, exec i s = .next t ∧ t.get16 dst = d16 ∧ (∀ r, r ≠ dst → t.get16 r = s.get16 r) ∧
      OnlyRegisters (halves16 dst) s t ∧ MemorySame s t

/-- R152: `PUSH rr`, in any `SP`, wrapping; the port writes the high byte first. -/
def Obligations.PushPairStoresHighThenLow : Prop :=
  ∀ (i : Instr) (src : Pair) (s : State), i.form = .push src →
    encode i = [0b11#2 ++ src.code ++ 0b0101#4] ∧
    ∃ t, exec i s = .next t ∧ t.sp = s.sp - 2#16 ∧
      t.readByte (s.sp - 1#16) = hiByte (s.getPair src) ∧ t.readByte (s.sp - 2#16) = loByte (s.getPair src) ∧
      dataAccesses i s = [.write (s.sp - 1#16) (hiByte (s.getPair src)), .write (s.sp - 2#16) (loByte (s.getPair src))] ∧
      MemorySameOutside [s.sp - 1#16, s.sp - 2#16] s t ∧ OnlyRegisters [] s t

/-- R153: `PUSH AF`: the accumulator at the higher address, the flag byte at the lower, its low nibble zero; the port
writes the accumulator first. -/
def Obligations.PushAFStoresAccumulatorThenFlags : Prop :=
  ∀ (i : Instr) (s : State), i.form = .pushAF →
    encode i = [0b11110101#8] ∧
    ∃ t, exec i s = .next t ∧ t.sp = s.sp - 2#16 ∧
      t.readByte (s.sp - 1#16) = s.a ∧ t.readByte (s.sp - 2#16) = s.f.toByte ∧
      t.readByte (s.sp - 2#16) &&& 0x0F#8 = 0#8 ∧
      dataAccesses i s = [.write (s.sp - 1#16) s.a, .write (s.sp - 2#16) s.f.toByte] ∧
      MemorySameOutside [s.sp - 1#16, s.sp - 2#16] s t ∧ OnlyRegisters [] s t

/-- R154: `POP rr`: the low byte at `SP`, the high byte at `SP + 1`; the port reads the low byte first. -/
def Obligations.PopPairLoadsLowThenHigh : Prop :=
  ∀ (i : Instr) (dst : Pair) (s : State), i.form = .pop dst →
    encode i = [0b11#2 ++ dst.code ++ 0b0001#4] ∧
    ∃ t, exec i s = .next t ∧ t.sp = s.sp + 2#16 ∧
      loByte (t.getPair dst) = s.readByte s.sp ∧ hiByte (t.getPair dst) = s.readByte (s.sp + 1#16) ∧
      dataAccesses i s =
        [.read s.sp (loByte (t.getPair dst)), .read (s.sp + 1#16) (hiByte (t.getPair dst))] ∧
      OnlyRegisters (halves dst) s t ∧ MemorySame s t

/-- R155: `POP AF`: all four flags from bits 7 to 4 of the byte at `SP`, the accumulator from `SP + 1`; the port reads
the flag byte first. -/
def Obligations.PopAFLoadsFlagsThenAccumulator : Prop :=
  ∀ (i : Instr) (s : State), i.form = .popAF →
    encode i = [0b11110001#8] ∧
    ∃ t, exec i s = .next t ∧ t.sp = s.sp + 2#16 ∧ t.a = s.readByte (s.sp + 1#16) ∧
      t.f = ⟨(s.readByte s.sp).getLsbD 7, (s.readByte s.sp).getLsbD 6, (s.readByte s.sp).getLsbD 5,
        (s.readByte s.sp).getLsbD 4⟩ ∧
      dataAccesses i s = [.read s.sp (s.readByte s.sp), .read (s.sp + 1#16) t.a] ∧
      RegistersSameExcept [.a] s t ∧ ControlSame s t ∧ MemorySame s t

/-- Derived from R152 to R155 (43_load16_stack.md section 4): a push followed by a pop of any pair copies the one to the
other and restores `SP`, at every `SP`; for `AF` the copy is exact. -/
def Obligations.PushThenPopCopiesAndRestoresSP : Prop :=
  (∀ (i j : Instr) (src dst : Pair) (s t u : State), i.form = .push src → j.form = .pop dst →
    exec i s = .next t → exec j t = .next u → u.getPair dst = s.getPair src ∧ u.sp = s.sp) ∧
  (∀ (i j : Instr) (s t u : State), i.form = .pushAF → j.form = .popAF →
    exec i s = .next t → exec j t = .next u → u.a = s.a ∧ u.f = s.f ∧ u.sp = s.sp)

/-! ### The ALU instructions -/

/-- R161, R162, R163: `ADD`. -/
def Obligations.AddSetsAccumulatorAndFlags : Prop :=
  ∀ (i : Instr) (src : Src) (s : State), i.form = .alu .add src →
    encode i = aluBytes 0 src ∧
    ∃ t, exec i s = .next t ∧ t.a = s.a + specOperand s src ∧
      t.f = ⟨decide (t.a = 0#8), false, decide (s.a.toNat % 16 + (specOperand s src).toNat % 16 > 15),
        decide (s.a.toNat + (specOperand s src).toNat > 255)⟩ ∧
      OnlyAccumulatorAndFlags s t

/-- R164, R165, R166: `ADC`, with the old carry. -/
def Obligations.AdcSetsAccumulatorAndFlags : Prop :=
  ∀ (i : Instr) (src : Src) (s : State), i.form = .alu .adc src →
    encode i = aluBytes 1 src ∧
    ∃ t, exec i s = .next t ∧ t.a = s.a + specOperand s src + BitVec.ofNat 8 s.f.c.toNat ∧
      t.f = ⟨decide (t.a = 0#8), false,
        decide (s.a.toNat % 16 + (specOperand s src).toNat % 16 + s.f.c.toNat > 15),
        decide (s.a.toNat + (specOperand s src).toNat + s.f.c.toNat > 255)⟩ ∧
      OnlyAccumulatorAndFlags s t

/-- R167, R168, R169: `SUB`. -/
def Obligations.SubSetsAccumulatorAndFlags : Prop :=
  ∀ (i : Instr) (src : Src) (s : State), i.form = .alu .sub src →
    encode i = aluBytes 2 src ∧
    ∃ t, exec i s = .next t ∧ t.a = s.a - specOperand s src ∧
      t.f = ⟨decide (t.a = 0#8), true, decide (s.a.toNat % 16 < (specOperand s src).toNat % 16),
        decide (s.a.toNat < (specOperand s src).toNat)⟩ ∧
      OnlyAccumulatorAndFlags s t

/-- R170, R171, R172: `SBC`, with the old carry; the sums on the right are not wrapped. -/
def Obligations.SbcSetsAccumulatorAndFlags : Prop :=
  ∀ (i : Instr) (src : Src) (s : State), i.form = .alu .sbc src →
    encode i = aluBytes 3 src ∧
    ∃ t, exec i s = .next t ∧ t.a = s.a - specOperand s src - BitVec.ofNat 8 s.f.c.toNat ∧
      t.f = ⟨decide (t.a = 0#8), true,
        decide (s.a.toNat % 16 < (specOperand s src).toNat % 16 + s.f.c.toNat),
        decide (s.a.toNat < (specOperand s src).toNat + s.f.c.toNat)⟩ ∧
      OnlyAccumulatorAndFlags s t

/-- R173, R174, R175: `AND`; the half-carry is always set. -/
def Obligations.AndSetsAccumulatorAndFlags : Prop :=
  ∀ (i : Instr) (src : Src) (s : State), i.form = .alu .and src →
    encode i = aluBytes 4 src ∧
    ∃ t, exec i s = .next t ∧ t.a = s.a &&& specOperand s src ∧
      t.f = ⟨decide (t.a = 0#8), false, true, false⟩ ∧ OnlyAccumulatorAndFlags s t

/-- R176, R177, R178: `XOR`. -/
def Obligations.XorSetsAccumulatorAndFlags : Prop :=
  ∀ (i : Instr) (src : Src) (s : State), i.form = .alu .xor src →
    encode i = aluBytes 5 src ∧
    ∃ t, exec i s = .next t ∧ t.a = s.a ^^^ specOperand s src ∧
      t.f = ⟨decide (t.a = 0#8), false, false, false⟩ ∧ OnlyAccumulatorAndFlags s t

/-- R179, R180, R181: `OR`. -/
def Obligations.OrSetsAccumulatorAndFlags : Prop :=
  ∀ (i : Instr) (src : Src) (s : State), i.form = .alu .or src →
    encode i = aluBytes 6 src ∧
    ∃ t, exec i s = .next t ∧ t.a = s.a ||| specOperand s src ∧
      t.f = ⟨decide (t.a = 0#8), false, false, false⟩ ∧ OnlyAccumulatorAndFlags s t

/-- R182, R183, R184: `CP`: the flags of `SUB`, and the accumulator is not written. -/
def Obligations.CompareSetsFlagsOnly : Prop :=
  ∀ (i : Instr) (src : Src) (s : State), i.form = .alu .cp src →
    encode i = aluBytes 7 src ∧
    ∃ t, exec i s = .next t ∧ t.a = s.a ∧
      t.f = ⟨decide (s.a = specOperand s src), true, decide (s.a.toNat % 16 < (specOperand s src).toNat % 16),
        decide (s.a.toNat < (specOperand s src).toNat)⟩ ∧
      OnlyAccumulatorAndFlags s t

/-- Derived from R185 with R87: `DAA`: after an addition the corrections test the original value, after a subtraction the
flags alone. The thresholds, the flags-only subtraction and the kept `N` are the spec's decision D5 (assumption 8). -/
def Obligations.DaaCorrectsTheAccumulator : Prop :=
  ∀ (i : Instr) (s : State), i.form = .daa →
    encode i = [0x27#8] ∧
    ∃ t, exec i s = .next t ∧
      (s.f.n = false →
        t.a.toNat = (s.a.toNat + (if s.f.h = true ∨ s.a.toNat % 16 > 9 then 6 else 0) +
          (if s.f.c = true ∨ s.a.toNat > 0x99 then 0x60 else 0)) % 256 ∧
        t.f.c = decide (s.f.c = true ∨ s.a.toNat > 0x99)) ∧
      (s.f.n = true →
        t.a.toNat = (s.a.toNat + 256 - (if s.f.h = true then 6 else 0) - (if s.f.c = true then 0x60 else 0)) % 256 ∧
        t.f.c = s.f.c) ∧
      t.f.z = decide (t.a = 0#8) ∧ t.f.n = s.f.n ∧ t.f.h = false ∧ OnlyAccumulatorAndFlags s t

/-- Derived from R93, R161 to R172 and R185: on the machine, an `ADD` or `ADC` of two packed decimal operands and then
`DAA` is decimal addition, and a `SUB` or `SBC` and then `DAA` decimal subtraction, with the carry the decimal carry or
borrow; `F.C` counts as carry-in for `ADC` and `SBC` alone. -/
def Obligations.DaaMakesBinaryArithmeticDecimal : Prop :=
  ∀ (i : Instr) (op : AluOp) (src : Src) (s t u : State) (x y : Nat), i.form = .alu op src →
    x < 100 → y < 100 → s.a = bcd x → specOperand s src = bcd y →
    exec i s = .next t → exec .daa t = .next u →
    (op = .add → u.a = bcd ((x + y) % 100) ∧ u.f.c = decide (x + y > 99)) ∧
    (op = .adc → u.a = bcd ((x + y + s.f.c.toNat) % 100) ∧ u.f.c = decide (x + y + s.f.c.toNat > 99)) ∧
    (op = .sub → u.a = bcd (((x : Int) - y) % 100).toNat ∧ u.f.c = decide (x < y)) ∧
    (op = .sbc → u.a = bcd (((x : Int) - y - s.f.c.toNat) % 100).toNat ∧ u.f.c = decide (x < y + s.f.c.toNat))

/-! ### The exception -/

/-- Derived from R203 (the spec's decision D10, assumption 13: the source's abort rendered as a next state): the entry of
`UnmappedOpcode`: the byte and `PC` are latched, the status is `FAULT`, nothing else changes. -/
def Obligations.UnmappedTakesTheFatalStop : Prop :=
  ∀ (i : Instr) (op : Byte) (s : State), i.form = .unmapped op →
    encode i = [op] ∧
    ∃ t, exec i s = .next t ∧ t.status = .fault ∧ t.faultInfo = some ⟨op, s.pc⟩ ∧
      t.pc = s.pc ∧ t.cyc = s.cyc ∧ t.sp = s.sp ∧ t.f = s.f ∧ RegistersSameExcept [] s t ∧ MemorySame s t

/-- Derived from R202, R203, R204 (decisions D10 and D18, assumption 13): the step that fetches a byte with no table
entry: `PC` is one past it, that value and the byte are latched, every other element is as it was, and the opcode fetch is
the only access to memory. -/
def Obligations.UnmappedOpcodeStepIsPrecise : Prop :=
  ∀ s : State, s.status = .run → table (s.readByte s.pc) = none →
    step s = .next { s with
      pc := s.pc + 1#16
      status := .fault
      faultInfo := some { opcode := s.readByte s.pc, pc := s.pc + 1#16 } } ∧
    stepAccesses s = [.read s.pc (s.readByte s.pc)]

/-- R201: a step of a running core enters `FAULT` exactly when the opcode byte has no table entry. -/
def Obligations.OnlyUnmappedOpcodesStopTheCore : Prop :=
  ∀ s t : State, s.status = .run → step s = .next t → (t.status = .fault ↔ table (s.readByte s.pc) = none)

/-- Derived from R111 (decision D12, assumption 13): in `FAULT` a step changes nothing and makes no access to memory. -/
def Obligations.FaultedCoreStepsWithoutEffect : Prop :=
  ∀ s : State, s.status = .fault → step s = .next s ∧ stepAccesses s = []

/-- Derived from R205 (decisions D10 and D12, assumption 13): `FAULT` is left by no number of steps, the latch is kept,
and reset clears both. -/
def Obligations.FaultIsKeptUntilReset : Prop :=
  (∀ (k : Nat) (s : State), s.status = .fault → Host.Core.run Sys2Proof.core k s = .next s) ∧
  (∀ (r : ResetState) (s : State), (State.resetTo r s).status = .run ∧ (State.resetTo r s).faultInfo = none)

/-! ### The step -/

/-- Derived from R102 to R105: when the bytes at `PC` (wrapping) decode to an instruction, a step of a running core is
`exec` of it with `PC` past its bytes, and then the account. -/
def Obligations.StepRunsTheDecodedInstruction : Prop :=
  ∀ (s : State) (i : Instr) (rest : List Byte), s.status = .run →
    decode [s.readByte s.pc, s.readByte (s.pc + 1#16), s.readByte (s.pc + 2#16)] = .ok (i, rest) →
    i.WellFormed →
    step s =
      match exec i { s with pc := s.pc + BitVec.ofNat 16 i.length } with
      | .next t => .next (account hardwareParams i t)
      | .fault r => .fault r
      | .refused r => .refused r

/-- Derived from R102, which says it of a mapped opcode. That a step on an unmapped byte and a step in `FAULT` answer a
next state too is the model's rendering of the fatal stop (decisions D10 and D12, assumption 13; D12 lets a model refuse
the step in `FAULT`). -/
def Obligations.EveryStepAnswersNext : Prop := ∀ s : State, ∃ t, step s = .next t

/-- R110: a step of a mapped opcode moves `PC` by the length R68 gives the opcode byte, modulo 2^16, and keeps the
status. -/
def Obligations.MappedStepAdvancesPCByItsLength : Prop :=
  ∀ s : State, s.status = .run → table (s.readByte s.pc) ≠ none →
    ∃ t, step s = .next t ∧ t.pc = s.pc + BitVec.ofNat 16 (lengthOfR68 (s.readByte s.pc)) ∧
      t.status = .run ∧ t.faultInfo = s.faultInfo

/-- Derived from R107 and R108: the counter advances by the opcode's cost, modulo the frame budget. The cost depends on
the opcode byte alone, is one of four, and is 4 for the two opcodes KG gives it for. That a fatal stop leaves the counter
is the spec's decision D19 (assumption 13); that an unmapped byte has a cost at all, which no step adds, is the model's
choice (assumption 4). -/
def Obligations.StepAddsTheOpcodesCost : Prop :=
  (∀ s : State, s.status = .run →
    ∃ t, step s = .next t ∧
      t.cyc = if table (s.readByte s.pc) = none then s.cyc
        else (s.cyc + paramCost hardwareParams (s.readByte s.pc)) % paramFrame hardwareParams) ∧
  (∀ op : Byte, paramCost hardwareParams op ∈ [4, 8, 12, 16]) ∧
  paramCost hardwareParams 0x3E#8 = 4 ∧ paramCost hardwareParams 0x87#8 = 4 ∧ 0 < paramFrame hardwareParams

/-- R27: no rule reads `cyc`: any number of steps from two states that differ in `cyc` alone end in two states that
differ in `cyc` alone. -/
def Obligations.CycleCounterIsReadByNothing : Prop :=
  ∀ (k : Nat) (s t : State) (c : Nat), Host.Core.run Sys2Proof.core k s = .next t →
    ∃ c', Host.Core.run Sys2Proof.core k { s with cyc := c } = .next { t with cyc := c' }

/-- Derived from R55: every store is seen by the very next fetch. A byte that a step writes at the port, whichever
instruction stored it, is what memory then holds there; where it lies in the instruction fetched next, it is the byte the
next step's port reads in that place and the byte of that instruction's encoding; at `PC` it is the opcode. The first
clause speaks of every storing form (`AccessesFollowTheirOrder` says what each writes), the second gives R55's plainest
case in full: `LD (HL),A` onto the byte that follows it. -/
def Obligations.StoreIsSeenByTheNextFetch : Prop :=
  (∀ (s t : State) (a : Word) (v : Byte), step s = .next t → .write a v ∈ stepAccesses s →
    t.readByte a = v ∧ (t.pc = a → t.fetchInstr.1.form.opcode = v) ∧
    ∀ k, k < t.fetchInstr.1.length → t.pc + BitVec.ofNat 16 k = a →
      (stepAccesses t)[k]? = some (.read a v) ∧ (encode t.fetchInstr.1)[k]? = some v) ∧
  (∀ s t : State, s.status = .run → s.readByte s.pc = 0x77#8 → s.hl = s.pc + 1#16 → step s = .next t →
    t.pc = s.hl ∧ t.fetchInstr.1.form.opcode = s.a)

/-- Derived from R51, R52 and R57: memory after a step is memory before it with the step's port writes applied in their
order; nothing else writes memory. -/
def Obligations.PortWritesExplainMemory : Prop :=
  ∀ s t : State, step s = .next t → t.mem = ((stepAccesses s).foldl replay s).mem

/-- Derived from R54, R57 and the rules of the forms (R121 to R185): the opcode byte is the first transaction of a
running step; the fetches are reads at consecutive addresses from `PC`; then the data accesses, given for every form with
their addresses, their bytes and their order: `PUSH` writes the high byte (the accumulator) first, `POP` reads the low byte
(the flag byte) first. At most two data accesses, and never both reads and writes. -/
def Obligations.AccessesFollowTheirOrder : Prop :=
  (∀ s : State, s.status = .run →
    stepAccesses s = (List.range s.fetchInstr.1.length).map (fun k => s.readAccess (s.pc + BitVec.ofNat 16 k)) ++
      dataAccesses s.fetchInstr.1 s.fetchInstr.2 ∧
    (stepAccesses s).head? = some (.read s.pc (s.readByte s.pc))) ∧
  (∀ (i : Instr) (s : State),
    (∀ r, i.form = .loadHL r → dataAccesses i s = [.read s.hl (s.readByte s.hl)]) ∧
    (∀ m, i.form = .load m → dataAccesses i s = [.read (specAddress s m) (s.readByte (specAddress s m))]) ∧
    (∀ p, i.form = .loadPost p → dataAccesses i s = [.read s.hl (s.readByte s.hl)]) ∧
    (∀ op, i.form = .alu op .atHL → dataAccesses i s = [.read s.hl (s.readByte s.hl)]) ∧
    (∀ p, i.form = .pop p →
      dataAccesses i s = [.read s.sp (s.readByte s.sp), .read (s.sp + 1#16) (s.readByte (s.sp + 1#16))]) ∧
    (i.form = .popAF →
      dataAccesses i s = [.read s.sp (s.readByte s.sp), .read (s.sp + 1#16) (s.readByte (s.sp + 1#16))]) ∧
    (∀ r, i.form = .storeHL r → dataAccesses i s = [.write s.hl (s.getR8 r)]) ∧
    (∀ m, i.form = .store m → dataAccesses i s = [.write (specAddress s m) s.a]) ∧
    (∀ p, i.form = .storePost p → dataAccesses i s = [.write s.hl s.a]) ∧
    (∀ p, i.form = .push p → dataAccesses i s =
      [.write (s.sp - 1#16) (hiByte (s.getPair p)), .write (s.sp - 2#16) (loByte (s.getPair p))]) ∧
    (i.form = .pushAF → dataAccesses i s = [.write (s.sp - 1#16) s.a, .write (s.sp - 2#16) s.f.toByte]) ∧
    ((∃ r r', i.form = .copy r r') ∨ (∃ r v, i.form = .loadImm r v) ∨ (∃ r w, i.form = .load16 r w) ∨
      (∃ op r, i.form = .alu op (.reg r)) ∨ (∃ op v, i.form = .alu op (.imm v)) ∨ i.form = .daa ∨
      (∃ op, i.form = .unmapped op) → dataAccesses i s = [])) ∧
  (∀ (i : Instr) (s : State), (dataAccesses i s).length ≤ 2 ∧
    ((∀ x ∈ dataAccesses i s, isWrite x = true) ∨ (∀ x ∈ dataAccesses i s, isWrite x = false)))

/-- Derived from R41 and R57: what a step takes from memory is what its port reads list. Put any other memory under the
same registers: if it answers the listed reads alike, the step ends in the same registers and control state and makes the
same transactions, so a byte no listed read names has no part in the step. -/
def Obligations.PortReadsExplainTheResult : Prop :=
  ∀ (s t : State) (m : Memory), step s = .next t →
    (∀ a v, .read a v ∈ stepAccesses s → m.read a.toNat = v) →
    stepAccesses { s with mem := m } = stepAccesses s ∧
      ∃ u, step { s with mem := m } = .next u ∧ { u with mem := t.mem } = t

/-! ### Rules about the whole machine -/

/-- Derived from R23, the column "written by": which instruction forms can change each element. -/
def Obligations.ElementsChangeOnlyByTheirWriters : Prop :=
  ∀ (i : Instr) (s t : State), exec i s = .next t →
    t.pc = s.pc ∧ t.cyc = s.cyc ∧
    (t.a ≠ s.a → (∃ r, i.form = .copy .a r) ∨ (∃ v, i.form = .loadImm .a v) ∨ i.form = .loadHL .a ∨
      (∃ m, i.form = .load m) ∨ (∃ p, i.form = .loadPost p) ∨ (∃ op src, i.form = .alu op src ∧ op ≠ .cp) ∨
      i.form = .daa ∨ i.form = .popAF) ∧
    (t.f ≠ s.f → (∃ op src, i.form = .alu op src) ∨ i.form = .daa ∨ i.form = .popAF) ∧
    (t.sp ≠ s.sp → (∃ w, i.form = .load16 .sp w) ∨ (∃ p, i.form = .push p) ∨ i.form = .pushAF ∨
      (∃ p, i.form = .pop p) ∨ i.form = .popAF) ∧
    (t.bc ≠ s.bc → (∃ r, r ∈ halves .bc ∧ ((∃ r', i.form = .copy r r') ∨ (∃ v, i.form = .loadImm r v) ∨
      i.form = .loadHL r)) ∨ (∃ w, i.form = .load16 .bc w) ∨ i.form = .pop .bc) ∧
    (t.de ≠ s.de → (∃ r, r ∈ halves .de ∧ ((∃ r', i.form = .copy r r') ∨ (∃ v, i.form = .loadImm r v) ∨
      i.form = .loadHL r)) ∨ (∃ w, i.form = .load16 .de w) ∨ i.form = .pop .de) ∧
    (t.hl ≠ s.hl → (∃ r, r ∈ halves .hl ∧ ((∃ r', i.form = .copy r r') ∨ (∃ v, i.form = .loadImm r v) ∨
      i.form = .loadHL r)) ∨ (∃ w, i.form = .load16 .hl w) ∨ i.form = .pop .hl ∨ (∃ p, i.form = .storePost p) ∨
      (∃ p, i.form = .loadPost p)) ∧
    (t.mem ≠ s.mem → (∃ r, i.form = .storeHL r) ∨ (∃ m, i.form = .store m) ∨ (∃ p, i.form = .storePost p) ∨
      (∃ p, i.form = .push p) ∨ i.form = .pushAF) ∧
    ((t.status ≠ s.status ∨ t.faultInfo ≠ s.faultInfo) → ∃ op, i.form = .unmapped op)

/-- Derived from R23, the column "read by": `F.Z` is read by `PUSH AF` alone (`DAA` receives it and ignores it). On any
other instruction, two states that differ in `F.Z` alone give two states that differ in `F.Z` at most. -/
def Obligations.ZeroFlagIsReadByPushAFAlone : Prop :=
  ∀ (i : Instr) (s t : State) (z : Bool), i.form ≠ .pushAF → exec i s = .next t →
    ∃ z', exec i { s with f := { s.f with z := z } } = .next { t with f := { t.f with z := z' } }

/-- The invariant `Inv` is kept by every step, from every state that has it: memory canonical, `cyc` below the frame
budget (R10, R27), the latch consistent with the status and with memory (R28, R202). -/
def Obligations.StepKeepsTheInvariant : Prop := ∀ s t : State, Inv s → step s = .next t → Inv t

/-! ### Reset -/

/-- Derived from R220 (decision D9, assumption 14): reset puts every element but memory to its reset value, whatever the
state was. -/
def Obligations.ResetSetsEveryElementButMemory : Prop :=
  ∀ (r : ResetState) (s : State),
    State.resetTo r s =
      { a := r.a, f := r.f, bc := r.bc, de := r.de, hl := r.hl, sp := r.sp, pc := r.pc, cyc := 0, status := .run,
        faultInfo := none, mem := s.mem } ∧
    respond s (.reset r) = .next (State.resetTo r s)

/-- Derived: the reset state of the model has the invariant. -/
def Obligations.ResetStateMeetsTheInvariant : Prop := Inv State.reset

/-- The model's choice (assumptions 1 and 2; R221's column "default of this spec"): `State.reset` is R220's reset with
an all-zero `RESET_STATE`, on a memory every byte of which reads zero. -/
def Obligations.DefaultResetIsAllZero : Prop :=
  (∀ r, State.reset.getR8 r = 0#8) ∧ State.reset.f.toByte = 0#8 ∧ State.reset.sp = 0#16 ∧ State.reset.pc = 0#16 ∧
    State.reset.cyc = 0 ∧ State.reset.status = .run ∧ State.reset.faultInfo = none ∧
    (∀ a : Word, State.reset.readByte a = 0#8)
end

