-- ==== Sys2Proof/Laws/Bytes.lean ====
section
/-! SUPPORT. The laws of the value primitives: splitting and composing a Word (R6 to R8). -/

namespace Sys2Proof

@[simp] theorem loByte_makeAddress (h l : Byte) : loByte (makeAddress h l) = l := by
  apply BitVec.eq_of_toNat_eq
  simp only [loByte, makeAddress, BitVec.extractLsb'_toNat, BitVec.toNat_or, BitVec.toNat_shiftLeft,
    BitVec.toNat_setWidth, Nat.shiftRight_zero]
  apply Nat.eq_of_testBit_eq
  intro i
  simp only [Nat.testBit_mod_two_pow, Nat.testBit_or, Nat.testBit_shiftLeft]
  by_cases hi : i < 8
  · have h8 : ¬ 8 ≤ i := by omega
    simp [hi, h8]
    omega
  · have : l.toNat.testBit i = false :=
      Nat.testBit_lt_two_pow (lt_of_lt_of_le l.isLt (Nat.pow_le_pow_right (by decide) (by omega)))
    simp [hi, this]

@[simp] theorem hiByte_makeAddress (h l : Byte) : hiByte (makeAddress h l) = h := by
  apply BitVec.eq_of_getLsbD_eq
  intro i hi
  have h16 : 8 + i < 16 ∧ i < 16 := by omega
  simp [hiByte, makeAddress, hi, h16]

@[simp] theorem makeAddress_halves (w : Word) : makeAddress (hiByte w) (loByte w) = w := by
  apply BitVec.eq_of_getLsbD_eq
  intro i hi
  by_cases h8 : i < 8
  · simp [hiByte, loByte, makeAddress, hi, h8]
  · have e : 8 + (i - 8) = i := by omega
    have : i - 8 < 8 := by omega
    simp [hiByte, loByte, makeAddress, hi, h8, e, this]

theorem wordLe_eq_makeAddress (first second : Byte) : wordLe first second = makeAddress second first :=
  BitVec.or_comm _ _

@[simp] theorem wordLe_halves (w : Word) : wordLe (loByte w) (hiByte w) = w := by
  rw [wordLe_eq_makeAddress, makeAddress_halves]

@[simp] theorem loByte_wordLe (first second : Byte) : loByte (wordLe first second) = first := by
  rw [wordLe_eq_makeAddress, loByte_makeAddress]

@[simp] theorem hiByte_wordLe (first second : Byte) : hiByte (wordLe first second) = second := by
  rw [wordLe_eq_makeAddress, hiByte_makeAddress]

end Sys2Proof
end

