-- ==== Sys2Proof/Laws/Decode.lean ====
section
/-! SUPPORT. What the dispatch table holds at a byte: an entry whose instructions have that byte as their opcode, the
immediates the entry asks for, and are well-formed. -/

namespace Sys2Proof.Laws

/-- A table entry stands at its own opcode byte. -/
def EntryAt (op : Byte) : Option Handler → Prop
  | none => True
  | some (.implied i) => i.form.opcode = op ∧ i.form.immediates = [] ∧ i.WellFormed
  | some (.imm8 k) => ∀ v, (k v).form.opcode = op ∧ (k v).form.immediates = [v] ∧ (k v).WellFormed
  | some (.imm16 k) =>
    ∀ w, (k w).form.opcode = op ∧ (k w).form.immediates = [loByte w, hiByte w] ∧ (k w).WellFormed

theorem entryAt_ofNat (n : Nat) (h : n < 256) : EntryAt (BitVec.ofNat 8 n) (table (BitVec.ofNat 8 n)) := by
  interval_cases n <;> first | exact ⟨rfl, rfl, rfl⟩ | exact fun v => ⟨rfl, rfl, rfl⟩ | exact trivial

theorem entryAt (op : Byte) : EntryAt op (table op) := by
  have h := entryAt_ofNat op.toNat op.isLt
  rwa [BitVec.ofNat_toNat, BitVec.setWidth_eq] at h

end Sys2Proof.Laws
end

