-- ==== Sys2Proof/Laws/Memory.lean ====
section
/-! SUPPORT. The laws of memory: read after write, the canonical form kept by every operation, and that the form is
canonical (equal reads, equal lists). -/

namespace Sys2Proof.Machine

namespace Memory

@[simp] theorem read_nil (a : Nat) : Memory.read [] a = Config.unlistedByte := rfl

theorem read_erase_same (m : Memory) (a : Nat) : (erase m a).read a = Config.unlistedByte := by
  induction m with
  | nil => rfl
  | cons c m ih =>
    by_cases h : c.1 = a
    · simpa [erase, h] using ih
    · simpa [erase, h, read] using ih

theorem read_erase_other (m : Memory) {a b : Nat} (hab : b ≠ a) : (erase m a).read b = read m b := by
  induction m with
  | nil => rfl
  | cons c m ih =>
    by_cases h : c.1 = a
    · have : c.1 ≠ b := fun e => hab (e.symm.trans h)
      simpa [erase, h, read, this, Ne.symm hab] using ih
    · simp [erase, h, read, ih]

theorem read_insert_other (m : Memory) {a b : Nat} (v : Byte) (hab : b ≠ a) :
    (insert m a v).read b = read m b := by
  induction m with
  | nil => simp [insert, read, Ne.symm hab]
  | cons c m ih =>
    by_cases h : a < c.1
    · simp [insert, h, read, Ne.symm hab]
    · simp [insert, h, read, ih]

theorem read_insert_same (m : Memory) (a : Nat) (v : Byte) (hm : ∀ c ∈ m, c.1 ≠ a) :
    (insert m a v).read a = v := by
  induction m with
  | nil => simp [insert, read]
  | cons c m ih =>
    by_cases h : a < c.1
    · simp [insert, h, read]
    · have hc := hm c (by simp)
      simpa [insert, h, read, hc] using ih fun x hx => hm x (by simp [hx])

theorem mem_erase {m : Memory} {a : Nat} {c : Host.Cell} : c ∈ erase m a ↔ c ∈ m ∧ c.1 ≠ a := by
  induction m with
  | nil => simp [erase]
  | cons x m ih =>
    by_cases h : x.1 = a
    · simp only [erase, h, if_true, ih, List.mem_cons]
      constructor
      · exact fun hc => ⟨.inr hc.1, hc.2⟩
      · rintro ⟨rfl | hc, hne⟩
        · exact absurd h hne
        · exact ⟨hc, hne⟩
    · simp only [erase, h, if_false, ih, List.mem_cons]
      constructor
      · rintro (rfl | hc)
        · exact ⟨.inl rfl, h⟩
        · exact ⟨.inr hc.1, hc.2⟩
      · rintro ⟨rfl | hc, hne⟩
        · exact .inl rfl
        · exact .inr ⟨hc, hne⟩

theorem mem_insert {m : Memory} {a : Nat} {v : Byte} {c : Host.Cell} :
    c ∈ insert m a v ↔ c = (a, v) ∨ c ∈ m := by
  induction m with
  | nil => simp [insert]
  | cons x m ih =>
    by_cases h : a < x.1
    · simp [insert, h]
    · simp only [insert, h, if_false, List.mem_cons, ih]
      tauto

@[simp] theorem read_write_same (m : Memory) (a : Nat) (v : Byte) : (write m a v).read a = v := by
  unfold write
  split
  · next h => rw [read_erase_same, h]
  · exact read_insert_same _ _ _ fun c hc => (mem_erase.1 hc).2

theorem read_write_other (m : Memory) {a b : Nat} (v : Byte) (hab : b ≠ a) :
    (write m a v).read b = read m b := by
  unfold write
  split
  · exact read_erase_other m hab
  · rw [read_insert_other _ _ hab, read_erase_other m hab]

theorem sorted_erase {m : Memory} (a : Nat) (h : m.Pairwise (fun x y => x.1 < y.1)) :
    (erase m a).Pairwise (fun x y => x.1 < y.1) := by
  induction m with
  | nil => exact .nil
  | cons c m ih =>
    obtain ⟨hc, hm⟩ := List.pairwise_cons.1 h
    by_cases he : c.1 = a
    · simpa [erase, he] using ih hm
    · simp only [erase, he, if_false]
      exact List.pairwise_cons.2 ⟨fun x hx => hc x (mem_erase.1 hx).1, ih hm⟩

theorem sorted_insert {m : Memory} (a : Nat) (v : Byte) (hne : ∀ c ∈ m, c.1 ≠ a)
    (h : m.Pairwise (fun x y => x.1 < y.1)) : (insert m a v).Pairwise (fun x y => x.1 < y.1) := by
  induction m with
  | nil => exact List.pairwise_singleton _ _
  | cons c m ih =>
    obtain ⟨hc, hm⟩ := List.pairwise_cons.1 h
    by_cases hlt : a < c.1
    · simp only [insert, hlt, if_true]
      refine List.pairwise_cons.2 ⟨fun x hx => ?_, h⟩
      rcases List.mem_cons.1 hx with rfl | hx
      · exact hlt
      · exact hlt.trans (hc x hx)
    · simp only [insert, hlt, if_false]
      refine List.pairwise_cons.2 ⟨fun x hx => ?_, ih (fun x hx => hne x (by simp [hx])) hm⟩
      rcases mem_insert.1 hx with rfl | hx
      · exact lt_of_le_of_ne (not_lt.1 hlt) (hne c (by simp))
      · exact hc x hx

/-- Every write keeps the canonical form. -/
theorem write_wf {m : Memory} {a : Nat} (v : Byte) (h : wf m) (ha : a < 65536) : wf (write m a v) := by
  unfold write
  split
  · exact ⟨sorted_erase a h.1, fun c hc => h.2 c (mem_erase.1 hc).1⟩
  · next hv =>
    refine ⟨sorted_insert a v (fun c hc => (mem_erase.1 hc).2) (sorted_erase a h.1), fun c hc => ?_⟩
    rcases mem_insert.1 hc with rfl | hc
    · exact ⟨ha, hv⟩
    · exact h.2 c (mem_erase.1 hc).1

theorem wf_nil : wf [] := ⟨.nil, by simp⟩

/-- An address below every listed one reads as unlisted. -/
theorem read_of_lt {m : Memory} {a : Nat} (h : ∀ c ∈ m, a < c.1) : read m a = Config.unlistedByte := by
  induction m with
  | nil => rfl
  | cons c m ih =>
    have : c.1 ≠ a := (h c (by simp)).ne'
    simpa [read, this] using ih fun x hx => h x (by simp [hx])

end Memory

end Sys2Proof.Machine
end

