-- ==== Sys2Proof/Laws/State.lean ====
section
/-! SUPPORT. One lemma per field per update of the state, all by unfolding the update once, so that no later proof
unfolds a record update. -/

namespace Sys2Proof.Machine

@[simp] theorem setR8_f (s : State) (r : R8) (v : Byte) : (s.setR8 r v).f = s.f := by cases r <;> rfl
@[simp] theorem setR8_sp (s : State) (r : R8) (v : Byte) : (s.setR8 r v).sp = s.sp := by cases r <;> rfl
@[simp] theorem setR8_pc (s : State) (r : R8) (v : Byte) : (s.setR8 r v).pc = s.pc := by cases r <;> rfl
@[simp] theorem setR8_cyc (s : State) (r : R8) (v : Byte) : (s.setR8 r v).cyc = s.cyc := by cases r <;> rfl
@[simp] theorem setR8_status (s : State) (r : R8) (v : Byte) : (s.setR8 r v).status = s.status := by cases r <;> rfl
@[simp] theorem setR8_faultInfo (s : State) (r : R8) (v : Byte) : (s.setR8 r v).faultInfo = s.faultInfo := by cases r <;> rfl
@[simp] theorem setR8_mem (s : State) (r : R8) (v : Byte) : (s.setR8 r v).mem = s.mem := by cases r <;> rfl

@[simp] theorem setPair_a (s : State) (p : Pair) (w : Word) : (s.setPair p w).a = s.a := by cases p <;> rfl
@[simp] theorem setPair_f (s : State) (p : Pair) (w : Word) : (s.setPair p w).f = s.f := by cases p <;> rfl
@[simp] theorem setPair_sp (s : State) (p : Pair) (w : Word) : (s.setPair p w).sp = s.sp := by cases p <;> rfl
@[simp] theorem setPair_pc (s : State) (p : Pair) (w : Word) : (s.setPair p w).pc = s.pc := by cases p <;> rfl
@[simp] theorem setPair_cyc (s : State) (p : Pair) (w : Word) : (s.setPair p w).cyc = s.cyc := by cases p <;> rfl
@[simp] theorem setPair_status (s : State) (p : Pair) (w : Word) : (s.setPair p w).status = s.status := by cases p <;> rfl
@[simp] theorem setPair_faultInfo (s : State) (p : Pair) (w : Word) : (s.setPair p w).faultInfo = s.faultInfo := by cases p <;> rfl
@[simp] theorem setPair_mem (s : State) (p : Pair) (w : Word) : (s.setPair p w).mem = s.mem := by cases p <;> rfl

@[simp] theorem set16_a (s : State) (r : Reg16) (w : Word) : (s.set16 r w).a = s.a := by cases r <;> rfl
@[simp] theorem set16_f (s : State) (r : Reg16) (w : Word) : (s.set16 r w).f = s.f := by cases r <;> rfl
@[simp] theorem set16_pc (s : State) (r : Reg16) (w : Word) : (s.set16 r w).pc = s.pc := by cases r <;> rfl
@[simp] theorem set16_cyc (s : State) (r : Reg16) (w : Word) : (s.set16 r w).cyc = s.cyc := by cases r <;> rfl
@[simp] theorem set16_status (s : State) (r : Reg16) (w : Word) : (s.set16 r w).status = s.status := by cases r <;> rfl
@[simp] theorem set16_faultInfo (s : State) (r : Reg16) (w : Word) : (s.set16 r w).faultInfo = s.faultInfo := by cases r <;> rfl
@[simp] theorem set16_mem (s : State) (r : Reg16) (w : Word) : (s.set16 r w).mem = s.mem := by cases r <;> rfl

@[simp] theorem writeByte_a (s : State) (a : Word) (v : Byte) : (s.writeByte a v).a = s.a := rfl
@[simp] theorem writeByte_f (s : State) (a : Word) (v : Byte) : (s.writeByte a v).f = s.f := rfl
@[simp] theorem writeByte_bc (s : State) (a : Word) (v : Byte) : (s.writeByte a v).bc = s.bc := rfl
@[simp] theorem writeByte_de (s : State) (a : Word) (v : Byte) : (s.writeByte a v).de = s.de := rfl
@[simp] theorem writeByte_hl (s : State) (a : Word) (v : Byte) : (s.writeByte a v).hl = s.hl := rfl
@[simp] theorem writeByte_sp (s : State) (a : Word) (v : Byte) : (s.writeByte a v).sp = s.sp := rfl
@[simp] theorem writeByte_pc (s : State) (a : Word) (v : Byte) : (s.writeByte a v).pc = s.pc := rfl
@[simp] theorem writeByte_cyc (s : State) (a : Word) (v : Byte) : (s.writeByte a v).cyc = s.cyc := rfl
@[simp] theorem writeByte_status (s : State) (a : Word) (v : Byte) : (s.writeByte a v).status = s.status := rfl
@[simp] theorem writeByte_faultInfo (s : State) (a : Word) (v : Byte) : (s.writeByte a v).faultInfo = s.faultInfo := rfl

@[simp] theorem pushByte_a (s : State) (v : Byte) : (s.pushByte v).a = s.a := rfl
@[simp] theorem pushByte_f (s : State) (v : Byte) : (s.pushByte v).f = s.f := rfl
@[simp] theorem pushByte_bc (s : State) (v : Byte) : (s.pushByte v).bc = s.bc := rfl
@[simp] theorem pushByte_de (s : State) (v : Byte) : (s.pushByte v).de = s.de := rfl
@[simp] theorem pushByte_hl (s : State) (v : Byte) : (s.pushByte v).hl = s.hl := rfl
@[simp] theorem pushByte_pc (s : State) (v : Byte) : (s.pushByte v).pc = s.pc := rfl
@[simp] theorem pushByte_cyc (s : State) (v : Byte) : (s.pushByte v).cyc = s.cyc := rfl
@[simp] theorem pushByte_status (s : State) (v : Byte) : (s.pushByte v).status = s.status := rfl
@[simp] theorem pushByte_faultInfo (s : State) (v : Byte) : (s.pushByte v).faultInfo = s.faultInfo := rfl

@[simp] theorem pushByte_sp (s : State) (v : Byte) : (s.pushByte v).sp = s.sp - 1#16 := rfl

@[simp] theorem popByte_a (s : State) : (s.popByte.2).a = s.a := rfl
@[simp] theorem popByte_f (s : State) : (s.popByte.2).f = s.f := rfl
@[simp] theorem popByte_bc (s : State) : (s.popByte.2).bc = s.bc := rfl
@[simp] theorem popByte_de (s : State) : (s.popByte.2).de = s.de := rfl
@[simp] theorem popByte_hl (s : State) : (s.popByte.2).hl = s.hl := rfl
@[simp] theorem popByte_pc (s : State) : (s.popByte.2).pc = s.pc := rfl
@[simp] theorem popByte_cyc (s : State) : (s.popByte.2).cyc = s.cyc := rfl
@[simp] theorem popByte_status (s : State) : (s.popByte.2).status = s.status := rfl
@[simp] theorem popByte_faultInfo (s : State) : (s.popByte.2).faultInfo = s.faultInfo := rfl
@[simp] theorem popByte_mem (s : State) : (s.popByte.2).mem = s.mem := rfl

@[simp] theorem popByte_sp (s : State) : s.popByte.2.sp = s.sp + 1#16 := rfl
@[simp] theorem popByte_value (s : State) : s.popByte.1 = s.readByte s.sp := rfl

@[simp] theorem fetch8_a (s : State) : (s.fetch8.2).a = s.a := rfl
@[simp] theorem fetch8_f (s : State) : (s.fetch8.2).f = s.f := rfl
@[simp] theorem fetch8_bc (s : State) : (s.fetch8.2).bc = s.bc := rfl
@[simp] theorem fetch8_de (s : State) : (s.fetch8.2).de = s.de := rfl
@[simp] theorem fetch8_hl (s : State) : (s.fetch8.2).hl = s.hl := rfl
@[simp] theorem fetch8_sp (s : State) : (s.fetch8.2).sp = s.sp := rfl
@[simp] theorem fetch8_cyc (s : State) : (s.fetch8.2).cyc = s.cyc := rfl
@[simp] theorem fetch8_status (s : State) : (s.fetch8.2).status = s.status := rfl
@[simp] theorem fetch8_faultInfo (s : State) : (s.fetch8.2).faultInfo = s.faultInfo := rfl
@[simp] theorem fetch8_mem (s : State) : (s.fetch8.2).mem = s.mem := rfl

@[simp] theorem fetch8_pc (s : State) : s.fetch8.2.pc = s.pc + 1#16 := rfl
@[simp] theorem fetch8_value (s : State) : s.fetch8.1 = s.readByte s.pc := rfl

@[simp] theorem fetch16_a (s : State) : (s.fetch16.2).a = s.a := rfl
@[simp] theorem fetch16_f (s : State) : (s.fetch16.2).f = s.f := rfl
@[simp] theorem fetch16_bc (s : State) : (s.fetch16.2).bc = s.bc := rfl
@[simp] theorem fetch16_de (s : State) : (s.fetch16.2).de = s.de := rfl
@[simp] theorem fetch16_hl (s : State) : (s.fetch16.2).hl = s.hl := rfl
@[simp] theorem fetch16_sp (s : State) : (s.fetch16.2).sp = s.sp := rfl
@[simp] theorem fetch16_cyc (s : State) : (s.fetch16.2).cyc = s.cyc := rfl
@[simp] theorem fetch16_status (s : State) : (s.fetch16.2).status = s.status := rfl
@[simp] theorem fetch16_faultInfo (s : State) : (s.fetch16.2).faultInfo = s.faultInfo := rfl
@[simp] theorem fetch16_mem (s : State) : (s.fetch16.2).mem = s.mem := rfl

@[simp] theorem fetch16_pc (s : State) : s.fetch16.2.pc = s.pc + 1#16 + 1#16 := rfl

@[simp] theorem raiseUnmappedOpcode_a (op : Byte) (s : State) : (raiseUnmappedOpcode op s).a = s.a := rfl
@[simp] theorem raiseUnmappedOpcode_f (op : Byte) (s : State) : (raiseUnmappedOpcode op s).f = s.f := rfl
@[simp] theorem raiseUnmappedOpcode_bc (op : Byte) (s : State) : (raiseUnmappedOpcode op s).bc = s.bc := rfl
@[simp] theorem raiseUnmappedOpcode_de (op : Byte) (s : State) : (raiseUnmappedOpcode op s).de = s.de := rfl
@[simp] theorem raiseUnmappedOpcode_hl (op : Byte) (s : State) : (raiseUnmappedOpcode op s).hl = s.hl := rfl
@[simp] theorem raiseUnmappedOpcode_sp (op : Byte) (s : State) : (raiseUnmappedOpcode op s).sp = s.sp := rfl
@[simp] theorem raiseUnmappedOpcode_pc (op : Byte) (s : State) : (raiseUnmappedOpcode op s).pc = s.pc := rfl
@[simp] theorem raiseUnmappedOpcode_cyc (op : Byte) (s : State) : (raiseUnmappedOpcode op s).cyc = s.cyc := rfl
@[simp] theorem raiseUnmappedOpcode_mem (op : Byte) (s : State) : (raiseUnmappedOpcode op s).mem = s.mem := rfl

@[simp] theorem account_a (P : Params) (i : Instr) (s : State) : (account P i s).a = s.a := by unfold account; split <;> rfl
@[simp] theorem account_f (P : Params) (i : Instr) (s : State) : (account P i s).f = s.f := by unfold account; split <;> rfl
@[simp] theorem account_bc (P : Params) (i : Instr) (s : State) : (account P i s).bc = s.bc := by unfold account; split <;> rfl
@[simp] theorem account_de (P : Params) (i : Instr) (s : State) : (account P i s).de = s.de := by unfold account; split <;> rfl
@[simp] theorem account_hl (P : Params) (i : Instr) (s : State) : (account P i s).hl = s.hl := by unfold account; split <;> rfl
@[simp] theorem account_sp (P : Params) (i : Instr) (s : State) : (account P i s).sp = s.sp := by unfold account; split <;> rfl
@[simp] theorem account_pc (P : Params) (i : Instr) (s : State) : (account P i s).pc = s.pc := by unfold account; split <;> rfl
@[simp] theorem account_status (P : Params) (i : Instr) (s : State) : (account P i s).status = s.status := by unfold account; split <;> rfl
@[simp] theorem account_faultInfo (P : Params) (i : Instr) (s : State) : (account P i s).faultInfo = s.faultInfo := by unfold account; split <;> rfl
@[simp] theorem account_mem (P : Params) (i : Instr) (s : State) : (account P i s).mem = s.mem := by unfold account; split <;> rfl

@[simp] theorem resetTo_mem (r : ResetState) (s : State) : (State.resetTo r s).mem = s.mem := rfl

@[simp] theorem resetTo_a (r : ResetState) (s : State) : (State.resetTo r s).a = r.a := rfl
@[simp] theorem resetTo_f (r : ResetState) (s : State) : (State.resetTo r s).f = r.f := rfl
@[simp] theorem resetTo_bc (r : ResetState) (s : State) : (State.resetTo r s).bc = r.bc := rfl
@[simp] theorem resetTo_de (r : ResetState) (s : State) : (State.resetTo r s).de = r.de := rfl
@[simp] theorem resetTo_hl (r : ResetState) (s : State) : (State.resetTo r s).hl = r.hl := rfl
@[simp] theorem resetTo_sp (r : ResetState) (s : State) : (State.resetTo r s).sp = r.sp := rfl
@[simp] theorem resetTo_pc (r : ResetState) (s : State) : (State.resetTo r s).pc = r.pc := rfl

end Sys2Proof.Machine
end

