-- ==== Sys2Proof/Laws/Ops.lean ====
section
/-! SUPPORT. What each shared operation does, said once: the register views, one byte of memory, the stack, and
fetching. -/

namespace Sys2Proof.Machine

/-- R17: a write to one 8-bit register is seen by reads of that register and of no other. -/
theorem getR8_setR8 (s : State) (r r' : R8) (v : Byte) :
    (s.setR8 r v).getR8 r' = if r' = r then v else s.getR8 r' := by
  cases r <;> cases r' <;> simp [State.setR8, State.getR8]

theorem getR8_congr {s t : State} (ha : t.a = s.a) (hbc : t.bc = s.bc) (hde : t.de = s.de) (hhl : t.hl = s.hl)
    (r : R8) : t.getR8 r = s.getR8 r := by
  cases r <;> simp [State.getR8, ha, hbc, hde, hhl]

@[simp] theorem getR8_writeByte (s : State) (a : Word) (v : Byte) (r : R8) :
    (s.writeByte a v).getR8 r = s.getR8 r := getR8_congr rfl rfl rfl rfl r

@[simp] theorem getR8_pushByte (s : State) (v : Byte) (r : R8) : (s.pushByte v).getR8 r = s.getR8 r :=
  getR8_congr rfl rfl rfl rfl r

theorem readByte_congr {s t : State} (h : t.mem = s.mem) (a : Word) : t.readByte a = s.readByte a := by
  simp [State.readByte, h]

@[simp] theorem readByte_setR8 (s : State) (r : R8) (v : Byte) (a : Word) :
    (s.setR8 r v).readByte a = s.readByte a := readByte_congr (setR8_mem s r v) a

@[simp] theorem readByte_popByte (s : State) (a : Word) : s.popByte.2.readByte a = s.readByte a := rfl

@[simp] theorem readByte_fetch8 (s : State) (a : Word) : s.fetch8.2.readByte a = s.readByte a := rfl

/-- R42: a byte written is the byte read, and every other address reads as before. -/
theorem readByte_writeByte (s : State) (a b : Word) (v : Byte) :
    (s.writeByte a v).readByte b = if b = a then v else s.readByte b := by
  split
  · next h => simp [State.readByte, State.writeByte, h]
  · next h => exact Memory.read_write_other _ _ fun e => h (BitVec.eq_of_toNat_eq e)

theorem writeByte_wf {s : State} (a : Word) (v : Byte) (h : Memory.wf s.mem) : Memory.wf (s.writeByte a v).mem :=
  Memory.write_wf v h a.isLt

/-- R152: a push writes at the lowered `SP` and nowhere else. -/
theorem readByte_pushByte (s : State) (v : Byte) (b : Word) :
    (s.pushByte v).readByte b = if b = s.sp - 1#16 then v else s.readByte b :=
  readByte_writeByte { s with sp := s.sp - 1#16 } (s.sp - 1#16) b v

theorem pushByte_wf {s : State} (v : Byte) (h : Memory.wf s.mem) : Memory.wf (s.pushByte v).mem :=
  writeByte_wf (s := { s with sp := s.sp - 1#16 }) (s.sp - 1#16) v h

theorem sub_one_sub_one (w : Word) : w - 1#16 - 1#16 = w - 2#16 := by rw [BitVec.sub_sub]; rfl

theorem add_one_add_one (w : Word) : w + 1#16 + 1#16 = w + 2#16 := by rw [BitVec.add_assoc]; rfl

theorem sub_two_add_one (w : Word) : w - 2#16 + 1#16 = w - 1#16 := by
  apply BitVec.eq_of_toNat_eq
  simp
  omega

/-- R152, R153: two pushes: the first byte one below `SP`, the second two below, `SP` two lower; no other byte and no
other element changes. -/
theorem pushByte_pushByte (s : State) (x y : Byte) :
    (s.pushByte x).pushByte y =
      { s with sp := s.sp - 2#16, mem := ((s.pushByte x).pushByte y).mem } ∧
    ∀ b : Word, ((s.pushByte x).pushByte y).readByte b =
      if b = s.sp - 2#16 then y else if b = s.sp - 1#16 then x else s.readByte b := by
  constructor
  · rw [← sub_one_sub_one]; rfl
  · intro b
    rw [readByte_pushByte, pushByte_sp, sub_one_sub_one, readByte_pushByte]

/-- R154, R155: two pops read at `SP` and `SP + 1` and change `SP` alone. -/
theorem popByte_popByte (s : State) :
    s.popByte.2.popByte = (s.readByte (s.sp + 1#16), { s with sp := s.sp + 2#16 }) := by
  rw [← add_one_add_one]; rfl

/-- Fetching an instruction changes `PC` alone. -/
theorem fetchInstr_eq (s : State) : s.fetchInstr.2 = { s with pc := s.fetchInstr.2.pc } := by
  unfold State.fetchInstr
  dsimp only
  split <;> rfl

end Sys2Proof.Machine
end

