-- ==== Sys2Proof/Laws/Exec.lean ====
section
/-! SUPPORT. The meaning of an instruction depends on its form alone: one case split over the constructors, so that
every later proof splits over forms. -/

namespace Sys2Proof.Machine

/-- What a form does to the state the fetch has left. -/
def formEffect : Form → State → State
  | .copy dst src => copyRegister dst src
  | .loadImm dst d8 => loadImmediate dst d8
  | .loadHL dst => loadThroughHL dst
  | .load m => loadAccumulator m
  | .storeHL src => storeThroughHL src
  | .store m => storeAccumulator m
  | .storePost p => storePostModify p
  | .loadPost p => loadPostModify p
  | .load16 dst d16 => loadImmediate16 dst d16
  | .push src => pushPair src
  | .pushAF => pushAF
  | .pop dst => popPair dst
  | .popAF => popAF
  | .alu op src => aluAccumulator op src
  | .daa => decimalAdjustAccumulator
  | .unmapped op => raiseUnmappedOpcode op

/-- Every instruction answers the next state its form gives. -/
theorem exec_eq (i : Instr) (s : State) : exec i s = .next (formEffect i.form s) := by
  cases i <;> rfl

theorem exec_of_form {i : Instr} {φ : Form} (h : i.form = φ) (s : State) : exec i s = .next (formEffect φ s) := by
  rw [exec_eq, h]

/-- No form but `unmapped` changes `PC`, `cyc`, the status or the latch. -/
theorem formEffect_control {φ : Form} (h : ∀ op, φ ≠ .unmapped op) (s : State) :
    (formEffect φ s).pc = s.pc ∧ (formEffect φ s).cyc = s.cyc ∧ (formEffect φ s).status = s.status ∧
      (formEffect φ s).faultInfo = s.faultInfo := by
  cases φ with
  | unmapped op => exact absurd rfl (h op)
  | _ =>
    simp [formEffect, copyRegister, loadImmediate, loadThroughHL, loadAccumulator, storeThroughHL, storeAccumulator,
      storePostModify, loadPostModify, loadImmediate16, pushPair, pushAF, popPair, popAF, aluAccumulator,
      decimalAdjustAccumulator]

/-- Every form keeps the canonical form of memory. -/
theorem formEffect_wf (φ : Form) {s : State} (h : Memory.wf s.mem) : Memory.wf (formEffect φ s).mem := by
  cases φ with
  | push p => exact pushByte_wf _ (pushByte_wf _ h)
  | pushAF => exact pushByte_wf _ (pushByte_wf _ h)
  | storeHL => exact writeByte_wf _ _ h
  | store => exact writeByte_wf _ _ h
  | storePost => exact writeByte_wf s.hl s.a h
  | copy => rw [formEffect, copyRegister, setR8_mem]; exact h
  | loadImm => rw [formEffect, loadImmediate, setR8_mem]; exact h
  | loadHL => rw [formEffect, loadThroughHL, setR8_mem]; exact h
  | load16 => rw [formEffect, loadImmediate16, set16_mem]; exact h
  | pop => simp only [formEffect, popPair, setPair_mem, popByte_mem]; exact h
  | load | loadPost | popAF | alu | daa | unmapped => exact h

/-- The address an accumulator load or store uses, the high page as `0xFF00 | n`. -/
theorem address_eq_specAddress (s : State) (m : Mode) : s.address m = Safety.specAddress s m := by
  have high : ∀ n : Byte, makeAddress 0xFF#8 n = 0xFF00#16 ||| n.setWidth 16 := fun _ => rfl
  cases m with
  | high a8 => exact high a8
  | highC => exact high (loByte s.bc)
  | bc | de | abs => rfl

end Sys2Proof.Machine
end

