-- ==== Sys2Proof/Laws/PerInstr.lean ====
section
/-! SUPPORT. Per-instruction families. `TableEntry`: the dispatch table's entry at an instruction's opcode rebuilds the
instruction from its immediate bytes (R69's grid against R69's bit patterns). -/

namespace Sys2Proof.Laws

/-- The entry at the opcode of `i` is one that gives `i` back from the immediate bytes of `i`. -/
def TableEntry.Statement (i : Instr) : Prop :=
  i.WellFormed →
    match table i.form.opcode with
    | none => i = .unmapped i.form.opcode ∧ i.form.immediates = []
    | some (.implied j) => j = i ∧ i.form.immediates = []
    | some (.imm8 k) => ∃ v, k v = i ∧ i.form.immediates = [v]
    | some (.imm16 k) => ∃ w, k w = i ∧ i.form.immediates = [loByte w, hiByte w]

namespace TableEntry

theorem ldBC_d16 (d16 : Word) : Statement (.ldBC_d16 d16) := by
  rw [Statement, show (Instr.ldBC_d16 d16).form.opcode = 0x01#8 from rfl]
  exact fun _ => ⟨d16, rfl, rfl⟩
theorem ldAtBC_A : Statement .ldAtBC_A := fun _ => ⟨rfl, rfl⟩
theorem ldB_d8 (d8 : Byte) : Statement (.ldB_d8 d8) := by
  rw [Statement, show (Instr.ldB_d8 d8).form.opcode = 0x06#8 from rfl]
  exact fun _ => ⟨d8, rfl, rfl⟩
theorem ldA_atBC : Statement .ldA_atBC := fun _ => ⟨rfl, rfl⟩
theorem ldC_d8 (d8 : Byte) : Statement (.ldC_d8 d8) := by
  rw [Statement, show (Instr.ldC_d8 d8).form.opcode = 0x0E#8 from rfl]
  exact fun _ => ⟨d8, rfl, rfl⟩
theorem ldDE_d16 (d16 : Word) : Statement (.ldDE_d16 d16) := by
  rw [Statement, show (Instr.ldDE_d16 d16).form.opcode = 0x11#8 from rfl]
  exact fun _ => ⟨d16, rfl, rfl⟩
theorem ldAtDE_A : Statement .ldAtDE_A := fun _ => ⟨rfl, rfl⟩
theorem ldD_d8 (d8 : Byte) : Statement (.ldD_d8 d8) := by
  rw [Statement, show (Instr.ldD_d8 d8).form.opcode = 0x16#8 from rfl]
  exact fun _ => ⟨d8, rfl, rfl⟩
theorem ldA_atDE : Statement .ldA_atDE := fun _ => ⟨rfl, rfl⟩
theorem ldE_d8 (d8 : Byte) : Statement (.ldE_d8 d8) := by
  rw [Statement, show (Instr.ldE_d8 d8).form.opcode = 0x1E#8 from rfl]
  exact fun _ => ⟨d8, rfl, rfl⟩
theorem ldHL_d16 (d16 : Word) : Statement (.ldHL_d16 d16) := by
  rw [Statement, show (Instr.ldHL_d16 d16).form.opcode = 0x21#8 from rfl]
  exact fun _ => ⟨d16, rfl, rfl⟩
theorem ldAtHLinc_A : Statement .ldAtHLinc_A := fun _ => ⟨rfl, rfl⟩
theorem ldH_d8 (d8 : Byte) : Statement (.ldH_d8 d8) := by
  rw [Statement, show (Instr.ldH_d8 d8).form.opcode = 0x26#8 from rfl]
  exact fun _ => ⟨d8, rfl, rfl⟩
theorem daa : Statement .daa := fun _ => ⟨rfl, rfl⟩
theorem ldA_atHLinc : Statement .ldA_atHLinc := fun _ => ⟨rfl, rfl⟩
theorem ldL_d8 (d8 : Byte) : Statement (.ldL_d8 d8) := by
  rw [Statement, show (Instr.ldL_d8 d8).form.opcode = 0x2E#8 from rfl]
  exact fun _ => ⟨d8, rfl, rfl⟩
theorem ldSP_d16 (d16 : Word) : Statement (.ldSP_d16 d16) := by
  rw [Statement, show (Instr.ldSP_d16 d16).form.opcode = 0x31#8 from rfl]
  exact fun _ => ⟨d16, rfl, rfl⟩
theorem ldAtHLdec_A : Statement .ldAtHLdec_A := fun _ => ⟨rfl, rfl⟩
theorem ldA_atHLdec : Statement .ldA_atHLdec := fun _ => ⟨rfl, rfl⟩
theorem ldA_d8 (d8 : Byte) : Statement (.ldA_d8 d8) := by
  rw [Statement, show (Instr.ldA_d8 d8).form.opcode = 0x3E#8 from rfl]
  exact fun _ => ⟨d8, rfl, rfl⟩
theorem ldB_B : Statement .ldB_B := fun _ => ⟨rfl, rfl⟩
theorem ldB_C : Statement .ldB_C := fun _ => ⟨rfl, rfl⟩
theorem ldB_D : Statement .ldB_D := fun _ => ⟨rfl, rfl⟩
theorem ldB_E : Statement .ldB_E := fun _ => ⟨rfl, rfl⟩
theorem ldB_H : Statement .ldB_H := fun _ => ⟨rfl, rfl⟩
theorem ldB_L : Statement .ldB_L := fun _ => ⟨rfl, rfl⟩
theorem ldB_atHL : Statement .ldB_atHL := fun _ => ⟨rfl, rfl⟩
theorem ldB_A : Statement .ldB_A := fun _ => ⟨rfl, rfl⟩
theorem ldC_B : Statement .ldC_B := fun _ => ⟨rfl, rfl⟩
theorem ldC_C : Statement .ldC_C := fun _ => ⟨rfl, rfl⟩
theorem ldC_D : Statement .ldC_D := fun _ => ⟨rfl, rfl⟩
theorem ldC_E : Statement .ldC_E := fun _ => ⟨rfl, rfl⟩
theorem ldC_H : Statement .ldC_H := fun _ => ⟨rfl, rfl⟩
theorem ldC_L : Statement .ldC_L := fun _ => ⟨rfl, rfl⟩
theorem ldC_atHL : Statement .ldC_atHL := fun _ => ⟨rfl, rfl⟩
theorem ldC_A : Statement .ldC_A := fun _ => ⟨rfl, rfl⟩
theorem ldD_B : Statement .ldD_B := fun _ => ⟨rfl, rfl⟩
theorem ldD_C : Statement .ldD_C := fun _ => ⟨rfl, rfl⟩
theorem ldD_D : Statement .ldD_D := fun _ => ⟨rfl, rfl⟩
theorem ldD_E : Statement .ldD_E := fun _ => ⟨rfl, rfl⟩
theorem ldD_H : Statement .ldD_H := fun _ => ⟨rfl, rfl⟩
theorem ldD_L : Statement .ldD_L := fun _ => ⟨rfl, rfl⟩
theorem ldD_atHL : Statement .ldD_atHL := fun _ => ⟨rfl, rfl⟩
theorem ldD_A : Statement .ldD_A := fun _ => ⟨rfl, rfl⟩
theorem ldE_B : Statement .ldE_B := fun _ => ⟨rfl, rfl⟩
theorem ldE_C : Statement .ldE_C := fun _ => ⟨rfl, rfl⟩
theorem ldE_D : Statement .ldE_D := fun _ => ⟨rfl, rfl⟩
theorem ldE_E : Statement .ldE_E := fun _ => ⟨rfl, rfl⟩
theorem ldE_H : Statement .ldE_H := fun _ => ⟨rfl, rfl⟩
theorem ldE_L : Statement .ldE_L := fun _ => ⟨rfl, rfl⟩
theorem ldE_atHL : Statement .ldE_atHL := fun _ => ⟨rfl, rfl⟩
theorem ldE_A : Statement .ldE_A := fun _ => ⟨rfl, rfl⟩
theorem ldH_B : Statement .ldH_B := fun _ => ⟨rfl, rfl⟩
theorem ldH_C : Statement .ldH_C := fun _ => ⟨rfl, rfl⟩
theorem ldH_D : Statement .ldH_D := fun _ => ⟨rfl, rfl⟩
theorem ldH_E : Statement .ldH_E := fun _ => ⟨rfl, rfl⟩
theorem ldH_H : Statement .ldH_H := fun _ => ⟨rfl, rfl⟩
theorem ldH_L : Statement .ldH_L := fun _ => ⟨rfl, rfl⟩
theorem ldH_atHL : Statement .ldH_atHL := fun _ => ⟨rfl, rfl⟩
theorem ldH_A : Statement .ldH_A := fun _ => ⟨rfl, rfl⟩
theorem ldL_B : Statement .ldL_B := fun _ => ⟨rfl, rfl⟩
theorem ldL_C : Statement .ldL_C := fun _ => ⟨rfl, rfl⟩
theorem ldL_D : Statement .ldL_D := fun _ => ⟨rfl, rfl⟩
theorem ldL_E : Statement .ldL_E := fun _ => ⟨rfl, rfl⟩
theorem ldL_H : Statement .ldL_H := fun _ => ⟨rfl, rfl⟩
theorem ldL_L : Statement .ldL_L := fun _ => ⟨rfl, rfl⟩
theorem ldL_atHL : Statement .ldL_atHL := fun _ => ⟨rfl, rfl⟩
theorem ldL_A : Statement .ldL_A := fun _ => ⟨rfl, rfl⟩
theorem ldAtHL_B : Statement .ldAtHL_B := fun _ => ⟨rfl, rfl⟩
theorem ldAtHL_C : Statement .ldAtHL_C := fun _ => ⟨rfl, rfl⟩
theorem ldAtHL_D : Statement .ldAtHL_D := fun _ => ⟨rfl, rfl⟩
theorem ldAtHL_E : Statement .ldAtHL_E := fun _ => ⟨rfl, rfl⟩
theorem ldAtHL_H : Statement .ldAtHL_H := fun _ => ⟨rfl, rfl⟩
theorem ldAtHL_L : Statement .ldAtHL_L := fun _ => ⟨rfl, rfl⟩
theorem ldAtHL_A : Statement .ldAtHL_A := fun _ => ⟨rfl, rfl⟩
theorem ldA_B : Statement .ldA_B := fun _ => ⟨rfl, rfl⟩
theorem ldA_C : Statement .ldA_C := fun _ => ⟨rfl, rfl⟩
theorem ldA_D : Statement .ldA_D := fun _ => ⟨rfl, rfl⟩
theorem ldA_E : Statement .ldA_E := fun _ => ⟨rfl, rfl⟩
theorem ldA_H : Statement .ldA_H := fun _ => ⟨rfl, rfl⟩
theorem ldA_L : Statement .ldA_L := fun _ => ⟨rfl, rfl⟩
theorem ldA_atHL : Statement .ldA_atHL := fun _ => ⟨rfl, rfl⟩
theorem ldA_A : Statement .ldA_A := fun _ => ⟨rfl, rfl⟩
theorem addA_B : Statement .addA_B := fun _ => ⟨rfl, rfl⟩
theorem addA_C : Statement .addA_C := fun _ => ⟨rfl, rfl⟩
theorem addA_D : Statement .addA_D := fun _ => ⟨rfl, rfl⟩
theorem addA_E : Statement .addA_E := fun _ => ⟨rfl, rfl⟩
theorem addA_H : Statement .addA_H := fun _ => ⟨rfl, rfl⟩
theorem addA_L : Statement .addA_L := fun _ => ⟨rfl, rfl⟩
theorem addA_atHL : Statement .addA_atHL := fun _ => ⟨rfl, rfl⟩
theorem addA_A : Statement .addA_A := fun _ => ⟨rfl, rfl⟩
theorem adcA_B : Statement .adcA_B := fun _ => ⟨rfl, rfl⟩
theorem adcA_C : Statement .adcA_C := fun _ => ⟨rfl, rfl⟩
theorem adcA_D : Statement .adcA_D := fun _ => ⟨rfl, rfl⟩
theorem adcA_E : Statement .adcA_E := fun _ => ⟨rfl, rfl⟩
theorem adcA_H : Statement .adcA_H := fun _ => ⟨rfl, rfl⟩
theorem adcA_L : Statement .adcA_L := fun _ => ⟨rfl, rfl⟩
theorem adcA_atHL : Statement .adcA_atHL := fun _ => ⟨rfl, rfl⟩
theorem adcA_A : Statement .adcA_A := fun _ => ⟨rfl, rfl⟩
theorem subA_B : Statement .subA_B := fun _ => ⟨rfl, rfl⟩
theorem subA_C : Statement .subA_C := fun _ => ⟨rfl, rfl⟩
theorem subA_D : Statement .subA_D := fun _ => ⟨rfl, rfl⟩
theorem subA_E : Statement .subA_E := fun _ => ⟨rfl, rfl⟩
theorem subA_H : Statement .subA_H := fun _ => ⟨rfl, rfl⟩
theorem subA_L : Statement .subA_L := fun _ => ⟨rfl, rfl⟩
theorem subA_atHL : Statement .subA_atHL := fun _ => ⟨rfl, rfl⟩
theorem subA_A : Statement .subA_A := fun _ => ⟨rfl, rfl⟩
theorem sbcA_B : Statement .sbcA_B := fun _ => ⟨rfl, rfl⟩
theorem sbcA_C : Statement .sbcA_C := fun _ => ⟨rfl, rfl⟩
theorem sbcA_D : Statement .sbcA_D := fun _ => ⟨rfl, rfl⟩
theorem sbcA_E : Statement .sbcA_E := fun _ => ⟨rfl, rfl⟩
theorem sbcA_H : Statement .sbcA_H := fun _ => ⟨rfl, rfl⟩
theorem sbcA_L : Statement .sbcA_L := fun _ => ⟨rfl, rfl⟩
theorem sbcA_atHL : Statement .sbcA_atHL := fun _ => ⟨rfl, rfl⟩
theorem sbcA_A : Statement .sbcA_A := fun _ => ⟨rfl, rfl⟩
theorem andA_B : Statement .andA_B := fun _ => ⟨rfl, rfl⟩
theorem andA_C : Statement .andA_C := fun _ => ⟨rfl, rfl⟩
theorem andA_D : Statement .andA_D := fun _ => ⟨rfl, rfl⟩
theorem andA_E : Statement .andA_E := fun _ => ⟨rfl, rfl⟩
theorem andA_H : Statement .andA_H := fun _ => ⟨rfl, rfl⟩
theorem andA_L : Statement .andA_L := fun _ => ⟨rfl, rfl⟩
theorem andA_atHL : Statement .andA_atHL := fun _ => ⟨rfl, rfl⟩
theorem andA_A : Statement .andA_A := fun _ => ⟨rfl, rfl⟩
theorem xorA_B : Statement .xorA_B := fun _ => ⟨rfl, rfl⟩
theorem xorA_C : Statement .xorA_C := fun _ => ⟨rfl, rfl⟩
theorem xorA_D : Statement .xorA_D := fun _ => ⟨rfl, rfl⟩
theorem xorA_E : Statement .xorA_E := fun _ => ⟨rfl, rfl⟩
theorem xorA_H : Statement .xorA_H := fun _ => ⟨rfl, rfl⟩
theorem xorA_L : Statement .xorA_L := fun _ => ⟨rfl, rfl⟩
theorem xorA_atHL : Statement .xorA_atHL := fun _ => ⟨rfl, rfl⟩
theorem xorA_A : Statement .xorA_A := fun _ => ⟨rfl, rfl⟩
theorem orA_B : Statement .orA_B := fun _ => ⟨rfl, rfl⟩
theorem orA_C : Statement .orA_C := fun _ => ⟨rfl, rfl⟩
theorem orA_D : Statement .orA_D := fun _ => ⟨rfl, rfl⟩
theorem orA_E : Statement .orA_E := fun _ => ⟨rfl, rfl⟩
theorem orA_H : Statement .orA_H := fun _ => ⟨rfl, rfl⟩
theorem orA_L : Statement .orA_L := fun _ => ⟨rfl, rfl⟩
theorem orA_atHL : Statement .orA_atHL := fun _ => ⟨rfl, rfl⟩
theorem orA_A : Statement .orA_A := fun _ => ⟨rfl, rfl⟩
theorem cpA_B : Statement .cpA_B := fun _ => ⟨rfl, rfl⟩
theorem cpA_C : Statement .cpA_C := fun _ => ⟨rfl, rfl⟩
theorem cpA_D : Statement .cpA_D := fun _ => ⟨rfl, rfl⟩
theorem cpA_E : Statement .cpA_E := fun _ => ⟨rfl, rfl⟩
theorem cpA_H : Statement .cpA_H := fun _ => ⟨rfl, rfl⟩
theorem cpA_L : Statement .cpA_L := fun _ => ⟨rfl, rfl⟩
theorem cpA_atHL : Statement .cpA_atHL := fun _ => ⟨rfl, rfl⟩
theorem cpA_A : Statement .cpA_A := fun _ => ⟨rfl, rfl⟩
theorem popBC : Statement .popBC := fun _ => ⟨rfl, rfl⟩
theorem pushBC : Statement .pushBC := fun _ => ⟨rfl, rfl⟩
theorem addA_d8 (d8 : Byte) : Statement (.addA_d8 d8) := by
  rw [Statement, show (Instr.addA_d8 d8).form.opcode = 0xC6#8 from rfl]
  exact fun _ => ⟨d8, rfl, rfl⟩
theorem adcA_d8 (d8 : Byte) : Statement (.adcA_d8 d8) := by
  rw [Statement, show (Instr.adcA_d8 d8).form.opcode = 0xCE#8 from rfl]
  exact fun _ => ⟨d8, rfl, rfl⟩
theorem popDE : Statement .popDE := fun _ => ⟨rfl, rfl⟩
theorem pushDE : Statement .pushDE := fun _ => ⟨rfl, rfl⟩
theorem subA_d8 (d8 : Byte) : Statement (.subA_d8 d8) := by
  rw [Statement, show (Instr.subA_d8 d8).form.opcode = 0xD6#8 from rfl]
  exact fun _ => ⟨d8, rfl, rfl⟩
theorem sbcA_d8 (d8 : Byte) : Statement (.sbcA_d8 d8) := by
  rw [Statement, show (Instr.sbcA_d8 d8).form.opcode = 0xDE#8 from rfl]
  exact fun _ => ⟨d8, rfl, rfl⟩
theorem ldhAtA8_A (a8 : Byte) : Statement (.ldhAtA8_A a8) := by
  rw [Statement, show (Instr.ldhAtA8_A a8).form.opcode = 0xE0#8 from rfl]
  exact fun _ => ⟨a8, rfl, rfl⟩
theorem popHL : Statement .popHL := fun _ => ⟨rfl, rfl⟩
theorem ldAtC_A : Statement .ldAtC_A := fun _ => ⟨rfl, rfl⟩
theorem pushHL : Statement .pushHL := fun _ => ⟨rfl, rfl⟩
theorem andA_d8 (d8 : Byte) : Statement (.andA_d8 d8) := by
  rw [Statement, show (Instr.andA_d8 d8).form.opcode = 0xE6#8 from rfl]
  exact fun _ => ⟨d8, rfl, rfl⟩
theorem ldAtA16_A (a16 : Word) : Statement (.ldAtA16_A a16) := by
  rw [Statement, show (Instr.ldAtA16_A a16).form.opcode = 0xEA#8 from rfl]
  exact fun _ => ⟨a16, rfl, rfl⟩
theorem xorA_d8 (d8 : Byte) : Statement (.xorA_d8 d8) := by
  rw [Statement, show (Instr.xorA_d8 d8).form.opcode = 0xEE#8 from rfl]
  exact fun _ => ⟨d8, rfl, rfl⟩
theorem ldhA_atA8 (a8 : Byte) : Statement (.ldhA_atA8 a8) := by
  rw [Statement, show (Instr.ldhA_atA8 a8).form.opcode = 0xF0#8 from rfl]
  exact fun _ => ⟨a8, rfl, rfl⟩
theorem popAF : Statement .popAF := fun _ => ⟨rfl, rfl⟩
theorem ldA_atC : Statement .ldA_atC := fun _ => ⟨rfl, rfl⟩
theorem pushAF : Statement .pushAF := fun _ => ⟨rfl, rfl⟩
theorem orA_d8 (d8 : Byte) : Statement (.orA_d8 d8) := by
  rw [Statement, show (Instr.orA_d8 d8).form.opcode = 0xF6#8 from rfl]
  exact fun _ => ⟨d8, rfl, rfl⟩
theorem ldA_atA16 (a16 : Word) : Statement (.ldA_atA16 a16) := by
  rw [Statement, show (Instr.ldA_atA16 a16).form.opcode = 0xFA#8 from rfl]
  exact fun _ => ⟨a16, rfl, rfl⟩
theorem cpA_d8 (d8 : Byte) : Statement (.cpA_d8 d8) := by
  rw [Statement, show (Instr.cpA_d8 d8).form.opcode = 0xFE#8 from rfl]
  exact fun _ => ⟨d8, rfl, rfl⟩
theorem unmapped (op : Byte) : Statement (.unmapped op) := by
  intro h
  have ht : table (Instr.unmapped op).form.opcode = none := by
    simpa [Instr.WellFormed, Instr.form, Form.wellFormed, Form.opcode] using h
  rw [ht]
  exact ⟨rfl, rfl⟩

end TableEntry

/-- Every instruction has its table entry. -/
theorem tableEntry (i : Instr) : TableEntry.Statement i := by
  cases i with
  | ldBC_d16 v => exact TableEntry.ldBC_d16 v
  | ldAtBC_A => exact TableEntry.ldAtBC_A
  | ldB_d8 v => exact TableEntry.ldB_d8 v
  | ldA_atBC => exact TableEntry.ldA_atBC
  | ldC_d8 v => exact TableEntry.ldC_d8 v
  | ldDE_d16 v => exact TableEntry.ldDE_d16 v
  | ldAtDE_A => exact TableEntry.ldAtDE_A
  | ldD_d8 v => exact TableEntry.ldD_d8 v
  | ldA_atDE => exact TableEntry.ldA_atDE
  | ldE_d8 v => exact TableEntry.ldE_d8 v
  | ldHL_d16 v => exact TableEntry.ldHL_d16 v
  | ldAtHLinc_A => exact TableEntry.ldAtHLinc_A
  | ldH_d8 v => exact TableEntry.ldH_d8 v
  | daa => exact TableEntry.daa
  | ldA_atHLinc => exact TableEntry.ldA_atHLinc
  | ldL_d8 v => exact TableEntry.ldL_d8 v
  | ldSP_d16 v => exact TableEntry.ldSP_d16 v
  | ldAtHLdec_A => exact TableEntry.ldAtHLdec_A
  | ldA_atHLdec => exact TableEntry.ldA_atHLdec
  | ldA_d8 v => exact TableEntry.ldA_d8 v
  | ldB_B => exact TableEntry.ldB_B
  | ldB_C => exact TableEntry.ldB_C
  | ldB_D => exact TableEntry.ldB_D
  | ldB_E => exact TableEntry.ldB_E
  | ldB_H => exact TableEntry.ldB_H
  | ldB_L => exact TableEntry.ldB_L
  | ldB_atHL => exact TableEntry.ldB_atHL
  | ldB_A => exact TableEntry.ldB_A
  | ldC_B => exact TableEntry.ldC_B
  | ldC_C => exact TableEntry.ldC_C
  | ldC_D => exact TableEntry.ldC_D
  | ldC_E => exact TableEntry.ldC_E
  | ldC_H => exact TableEntry.ldC_H
  | ldC_L => exact TableEntry.ldC_L
  | ldC_atHL => exact TableEntry.ldC_atHL
  | ldC_A => exact TableEntry.ldC_A
  | ldD_B => exact TableEntry.ldD_B
  | ldD_C => exact TableEntry.ldD_C
  | ldD_D => exact TableEntry.ldD_D
  | ldD_E => exact TableEntry.ldD_E
  | ldD_H => exact TableEntry.ldD_H
  | ldD_L => exact TableEntry.ldD_L
  | ldD_atHL => exact TableEntry.ldD_atHL
  | ldD_A => exact TableEntry.ldD_A
  | ldE_B => exact TableEntry.ldE_B
  | ldE_C => exact TableEntry.ldE_C
  | ldE_D => exact TableEntry.ldE_D
  | ldE_E => exact TableEntry.ldE_E
  | ldE_H => exact TableEntry.ldE_H
  | ldE_L => exact TableEntry.ldE_L
  | ldE_atHL => exact TableEntry.ldE_atHL
  | ldE_A => exact TableEntry.ldE_A
  | ldH_B => exact TableEntry.ldH_B
  | ldH_C => exact TableEntry.ldH_C
  | ldH_D => exact TableEntry.ldH_D
  | ldH_E => exact TableEntry.ldH_E
  | ldH_H => exact TableEntry.ldH_H
  | ldH_L => exact TableEntry.ldH_L
  | ldH_atHL => exact TableEntry.ldH_atHL
  | ldH_A => exact TableEntry.ldH_A
  | ldL_B => exact TableEntry.ldL_B
  | ldL_C => exact TableEntry.ldL_C
  | ldL_D => exact TableEntry.ldL_D
  | ldL_E => exact TableEntry.ldL_E
  | ldL_H => exact TableEntry.ldL_H
  | ldL_L => exact TableEntry.ldL_L
  | ldL_atHL => exact TableEntry.ldL_atHL
  | ldL_A => exact TableEntry.ldL_A
  | ldAtHL_B => exact TableEntry.ldAtHL_B
  | ldAtHL_C => exact TableEntry.ldAtHL_C
  | ldAtHL_D => exact TableEntry.ldAtHL_D
  | ldAtHL_E => exact TableEntry.ldAtHL_E
  | ldAtHL_H => exact TableEntry.ldAtHL_H
  | ldAtHL_L => exact TableEntry.ldAtHL_L
  | ldAtHL_A => exact TableEntry.ldAtHL_A
  | ldA_B => exact TableEntry.ldA_B
  | ldA_C => exact TableEntry.ldA_C
  | ldA_D => exact TableEntry.ldA_D
  | ldA_E => exact TableEntry.ldA_E
  | ldA_H => exact TableEntry.ldA_H
  | ldA_L => exact TableEntry.ldA_L
  | ldA_atHL => exact TableEntry.ldA_atHL
  | ldA_A => exact TableEntry.ldA_A
  | addA_B => exact TableEntry.addA_B
  | addA_C => exact TableEntry.addA_C
  | addA_D => exact TableEntry.addA_D
  | addA_E => exact TableEntry.addA_E
  | addA_H => exact TableEntry.addA_H
  | addA_L => exact TableEntry.addA_L
  | addA_atHL => exact TableEntry.addA_atHL
  | addA_A => exact TableEntry.addA_A
  | adcA_B => exact TableEntry.adcA_B
  | adcA_C => exact TableEntry.adcA_C
  | adcA_D => exact TableEntry.adcA_D
  | adcA_E => exact TableEntry.adcA_E
  | adcA_H => exact TableEntry.adcA_H
  | adcA_L => exact TableEntry.adcA_L
  | adcA_atHL => exact TableEntry.adcA_atHL
  | adcA_A => exact TableEntry.adcA_A
  | subA_B => exact TableEntry.subA_B
  | subA_C => exact TableEntry.subA_C
  | subA_D => exact TableEntry.subA_D
  | subA_E => exact TableEntry.subA_E
  | subA_H => exact TableEntry.subA_H
  | subA_L => exact TableEntry.subA_L
  | subA_atHL => exact TableEntry.subA_atHL
  | subA_A => exact TableEntry.subA_A
  | sbcA_B => exact TableEntry.sbcA_B
  | sbcA_C => exact TableEntry.sbcA_C
  | sbcA_D => exact TableEntry.sbcA_D
  | sbcA_E => exact TableEntry.sbcA_E
  | sbcA_H => exact TableEntry.sbcA_H
  | sbcA_L => exact TableEntry.sbcA_L
  | sbcA_atHL => exact TableEntry.sbcA_atHL
  | sbcA_A => exact TableEntry.sbcA_A
  | andA_B => exact TableEntry.andA_B
  | andA_C => exact TableEntry.andA_C
  | andA_D => exact TableEntry.andA_D
  | andA_E => exact TableEntry.andA_E
  | andA_H => exact TableEntry.andA_H
  | andA_L => exact TableEntry.andA_L
  | andA_atHL => exact TableEntry.andA_atHL
  | andA_A => exact TableEntry.andA_A
  | xorA_B => exact TableEntry.xorA_B
  | xorA_C => exact TableEntry.xorA_C
  | xorA_D => exact TableEntry.xorA_D
  | xorA_E => exact TableEntry.xorA_E
  | xorA_H => exact TableEntry.xorA_H
  | xorA_L => exact TableEntry.xorA_L
  | xorA_atHL => exact TableEntry.xorA_atHL
  | xorA_A => exact TableEntry.xorA_A
  | orA_B => exact TableEntry.orA_B
  | orA_C => exact TableEntry.orA_C
  | orA_D => exact TableEntry.orA_D
  | orA_E => exact TableEntry.orA_E
  | orA_H => exact TableEntry.orA_H
  | orA_L => exact TableEntry.orA_L
  | orA_atHL => exact TableEntry.orA_atHL
  | orA_A => exact TableEntry.orA_A
  | cpA_B => exact TableEntry.cpA_B
  | cpA_C => exact TableEntry.cpA_C
  | cpA_D => exact TableEntry.cpA_D
  | cpA_E => exact TableEntry.cpA_E
  | cpA_H => exact TableEntry.cpA_H
  | cpA_L => exact TableEntry.cpA_L
  | cpA_atHL => exact TableEntry.cpA_atHL
  | cpA_A => exact TableEntry.cpA_A
  | popBC => exact TableEntry.popBC
  | pushBC => exact TableEntry.pushBC
  | addA_d8 v => exact TableEntry.addA_d8 v
  | adcA_d8 v => exact TableEntry.adcA_d8 v
  | popDE => exact TableEntry.popDE
  | pushDE => exact TableEntry.pushDE
  | subA_d8 v => exact TableEntry.subA_d8 v
  | sbcA_d8 v => exact TableEntry.sbcA_d8 v
  | ldhAtA8_A v => exact TableEntry.ldhAtA8_A v
  | popHL => exact TableEntry.popHL
  | ldAtC_A => exact TableEntry.ldAtC_A
  | pushHL => exact TableEntry.pushHL
  | andA_d8 v => exact TableEntry.andA_d8 v
  | ldAtA16_A v => exact TableEntry.ldAtA16_A v
  | xorA_d8 v => exact TableEntry.xorA_d8 v
  | ldhA_atA8 v => exact TableEntry.ldhA_atA8 v
  | popAF => exact TableEntry.popAF
  | ldA_atC => exact TableEntry.ldA_atC
  | pushAF => exact TableEntry.pushAF
  | orA_d8 v => exact TableEntry.orA_d8 v
  | ldA_atA16 v => exact TableEntry.ldA_atA16 v
  | cpA_d8 v => exact TableEntry.cpA_d8 v
  | unmapped op => exact TableEntry.unmapped op

end Sys2Proof.Laws
end

