-- ==== Sys2Proof/Laws/Step.lean ====
section
/-! SUPPORT. What one step can do, said once (R102, R111): nothing in `FAULT`; in `RUN` the fetch, the effect of the
form fetched, and the account. -/

namespace Sys2Proof.Machine

/-- The opcode of the instruction fetched is the byte at `PC`. -/
theorem fetchInstr_opcode (s : State) : s.fetchInstr.1.form.opcode = s.readByte s.pc := by
  have hs := Laws.entryAt (s.readByte s.pc)
  unfold State.fetchInstr
  simp only [fetch8_value]
  cases ht : table (s.readByte s.pc) with
  | none => rfl
  | some e =>
    rw [ht] at hs
    cases e with
    | implied j => exact hs.1
    | imm8 k => exact (hs _).1
    | imm16 k => exact (hs _).1

/-- What is fetched is well-formed. -/
theorem fetchInstr_wellFormed (s : State) : s.fetchInstr.1.WellFormed := by
  have hs := Laws.entryAt (s.readByte s.pc)
  unfold State.fetchInstr
  simp only [fetch8_value]
  cases ht : table (s.readByte s.pc) with
  | none => simp [Instr.WellFormed, Instr.form, Form.wellFormed, ht]
  | some e =>
    rw [ht] at hs
    cases e with
    | implied j => exact hs.2.2
    | imm8 k => exact (hs _).2.2
    | imm16 k => exact (hs _).2.2

/-- Fetching moves `PC` past the instruction, modulo 2^16, and changes nothing else. -/
theorem fetchInstr_state (s : State) :
    s.fetchInstr.2 = { s with pc := s.pc + BitVec.ofNat 16 s.fetchInstr.1.length } := by
  have hs := Laws.entryAt (s.readByte s.pc)
  unfold State.fetchInstr
  simp only [fetch8_value]
  cases ht : table (s.readByte s.pc) with
  | none => rfl
  | some e =>
    rw [ht] at hs
    cases e with
    | implied j => simp only [Instr.length, hs.2.1]; rfl
    | imm8 k => simp only [Instr.length, (hs _).2.1]; simp [State.fetch8, add_one_add_one]
    | imm16 k =>
      simp only [Instr.length, (hs _).2.1]
      simp [State.fetch8, State.fetch16, add_one_add_one]
      rw [BitVec.add_assoc]
      rfl

/-- The instruction fetched is the one the decoder reads from the bytes at `PC`. -/
theorem fetchInstr_decode (s : State) :
    ∃ rest, decode [s.readByte s.pc, s.readByte (s.pc + 1#16), s.readByte (s.pc + 2#16)] =
      .ok (s.fetchInstr.1, rest) := by
  unfold State.fetchInstr decode
  simp only [fetch8_value]
  cases ht : table (s.readByte s.pc) with
  | none => exact ⟨_, rfl⟩
  | some e =>
    cases e with
    | implied j => exact ⟨_, rfl⟩
    | imm8 k => exact ⟨_, rfl⟩
    | imm16 k => simp [State.fetch16, add_one_add_one]

/-- A mapped opcode byte fetches an instruction other than `unmapped`. -/
theorem fetchInstr_mapped {s : State} (h : table (s.readByte s.pc) ≠ none) (op : Byte) :
    s.fetchInstr.1.form ≠ .unmapped op := by
  intro e
  have ho := fetchInstr_opcode s
  have hw := fetchInstr_wellFormed s
  rw [e] at ho
  rw [Instr.WellFormed, e] at hw
  simp only [Form.opcode] at ho
  simp only [Form.wellFormed, ho, Option.isNone_iff_eq_none] at hw
  exact h hw

theorem stepWith_fault {s : State} (P : Params) (h : s.status = .fault) : stepWith P s = .next s := by
  simp [stepWith, h]

theorem stepWith_run {s : State} (P : Params) (h : s.status = .run) :
    stepWith P s = .next (account P s.fetchInstr.1 (formEffect s.fetchInstr.1.form s.fetchInstr.2)) := by
  simp [stepWith, h, exec_eq]

/-- The two cases of a step that answers a next state. -/
theorem step_cases {s t : State} (h : step s = .next t) :
    (s.status = .fault ∧ t = s) ∨
      (s.status = .run ∧
        t = account hardwareParams s.fetchInstr.1 (formEffect s.fetchInstr.1.form s.fetchInstr.2)) := by
  cases hs : s.status with
  | fault =>
    rw [step, stepWith_fault _ hs] at h
    exact .inl ⟨rfl, by cases h; rfl⟩
  | run =>
    rw [step, stepWith_run _ hs] at h
    exact .inr ⟨rfl, by cases h; rfl⟩

end Sys2Proof.Machine
end

