-- ==== Sys2Proof/Laws/Port.lean ====
section
/-! SUPPORT. What the transactions of a step say, once for each list: the fetches are the bytes from `PC` on, and a write
among the data accesses is a byte the instruction's effect leaves in memory. -/

namespace Sys2Proof.Machine

/-- The fetches of `n` bytes are reads at consecutive addresses from `PC`, modulo 2^16. -/
theorem fetchAccesses_eq_range (s : State) (n : Nat) :
    fetchAccesses s n = (List.range n).map (fun k => s.readAccess (s.pc + BitVec.ofNat 16 k)) := by
  induction n generalizing s with
  | zero => rfl
  | succ n ih =>
    rw [fetchAccesses, ih, List.range_succ_eq_map, List.map_cons, List.map_map]
    congr 1
    · simp
    · refine List.map_congr_left fun k _ => ?_
      have next : s.pc + 1#16 + BitVec.ofNat 16 k = s.pc + BitVec.ofNat 16 (k + 1) := by
        rw [BitVec.add_assoc, Nat.add_comm k 1, BitVec.ofNat_add]
      simp [State.readAccess, next]

/-- No fetch writes. -/
theorem write_notMem_fetchAccesses (s : State) (n : Nat) (a : Word) (v : Byte) : .write a v ∉ fetchAccesses s n := by
  simp [fetchAccesses_eq_range, State.readAccess]

/-- Byte `k` of the instruction fetched is the byte at `PC + k`, modulo 2^16. -/
theorem encode_fetchInstr_getElem (s : State) {k : Nat} (hk : k < s.fetchInstr.1.length) :
    (encode s.fetchInstr.1)[k]? = some (s.readByte (s.pc + BitVec.ofNat 16 k)) := by
  have hs := Laws.entryAt (s.readByte s.pc)
  unfold State.fetchInstr at hk ⊢
  simp only [fetch8_value] at hk ⊢
  cases ht : table (s.readByte s.pc) with
  | none =>
    simp only [ht, Instr.length, Instr.form, Form.immediates, List.length_nil, Nat.lt_one_iff, Nat.zero_add] at hk
    simp [hk, encode, Instr.form, Form.opcode]
  | some e =>
    rw [ht] at hs
    cases e with
    | implied j =>
      simp only [ht, Instr.length, hs.2.1, List.length_nil, Nat.lt_one_iff, Nat.zero_add] at hk
      simp [hk, encode, hs.1]
    | imm8 f =>
      simp only [ht, Instr.length, (hs _).2.1, List.length_singleton] at hk
      obtain rfl | rfl : k = 0 ∨ k = 1 := by omega
      all_goals simp [encode, (hs _).1, (hs _).2.1]
    | imm16 f =>
      simp only [ht, Instr.length, (hs _).2.1, List.length_cons, List.length_nil] at hk
      obtain rfl | rfl | rfl : k = 0 ∨ k = 1 ∨ k = 2 := by omega
      all_goals simp [encode, (hs _).1, (hs _).2.1, State.fetch16, wordLe_eq_makeAddress, add_one_add_one]

/-- A byte among an instruction's data writes is in memory when its effect is done, and the instruction is a mapped one. -/
theorem readByte_of_mem_dataAccesses {i : Instr} {s : State} {a : Word} {v : Byte}
    (h : .write a v ∈ dataAccesses i s) :
    (formEffect i.form s).readByte a = v ∧ ∀ op, i.form ≠ .unmapped op := by
  unfold dataAccesses at h
  cases hf : i.form with
  | storeHL | store | storePost =>
    simp only [hf, List.mem_singleton, Access.write.injEq] at h
    obtain ⟨rfl, rfl⟩ := h
    exact ⟨(readByte_writeByte ..).trans (if_pos rfl), by simp⟩
  | push | pushAF =>
    simp only [hf, List.mem_cons, List.not_mem_nil, or_false, Access.write.injEq] at h
    refine ⟨?_, by simp⟩
    simp only [formEffect, pushPair, pushAF, (pushByte_pushByte _ _ _).2]
    rcases h with ⟨rfl, rfl⟩ | ⟨rfl, rfl⟩ <;> simp
  | alu op src => rw [hf] at h; cases src <;> simp [State.readAccess] at h
  | copy | loadImm | loadHL | load | loadPost | load16 | pop | popAF | daa | unmapped =>
    simp [hf, State.readAccess] at h

end Sys2Proof.Machine
end

