-- ==== Sys2Proof/Tests/Slice0.lean ====
section
/-! SUPPORT. Tests: the refused ill-formed term, every constructor's decoding by a written-out word (R69), the spec's
own vectors (95_test_vectors.md, one step each, run with the spec's reference costs), and for each statement with
hypotheses a named witness that meets them. Expected results are the spec's, copied from its tables. -/

namespace Sys2Proof.Tests

open Sys2Proof.Machine Sys2Proof.Safety

/-- One step with the reference parameters (R108). -/
def stepReference (s : State) : State :=
  match stepWith referenceParams s with
  | .next t => t
  | .fault _ => s
  | .refused _ => s

/-- What the decoder reads from an opcode byte followed by 0x34, 0x12. -/
def decodedWith (op : Byte) : Option Instr :=
  match decode [op, 0x34#8, 0x12#8] with
  | .ok (i, _) => some i
  | .error _ => none

/-! ### Well-formedness: the one check, with a term it refuses -/

theorem test_wellFormed_refuses_a_mapped_byte : ¬ (Instr.unmapped 0x3E#8).WellFormed := by decide
theorem test_wellFormed_accepts_an_unmapped_byte : (Instr.unmapped 0x76#8).WellFormed := by decide
theorem test_decode_names_an_empty_text : decode [] = .error .noOpcode := by decide
theorem test_decode_names_a_missing_immediate : decode [0x21#8, 0x34#8] = .error (.missingImmediate 0x21#8) := by decide

/-! ### Decoding -/

/-- R69, row 0x; the immediates are the bytes 0x34, 0x12. -/
theorem test_decode_row_0 :
    [0b00000000#8, 0b00000001#8, 0b00000010#8, 0b00000011#8, 0b00000100#8, 0b00000101#8, 0b00000110#8, 0b00000111#8,
      0b00001000#8, 0b00001001#8, 0b00001010#8, 0b00001011#8, 0b00001100#8, 0b00001101#8, 0b00001110#8, 0b00001111#8].map decodedWith =
    [.unmapped 0x00#8, .ldBC_d16 0x1234#16, .ldAtBC_A, .unmapped 0x03#8, .unmapped 0x04#8, .unmapped 0x05#8, .ldB_d8 0x34#8, .unmapped 0x07#8,
      .unmapped 0x08#8, .unmapped 0x09#8, .ldA_atBC, .unmapped 0x0B#8, .unmapped 0x0C#8, .unmapped 0x0D#8, .ldC_d8 0x34#8, .unmapped 0x0F#8].map some := by decide

/-- R69, row 1x; the immediates are the bytes 0x34, 0x12. -/
theorem test_decode_row_1 :
    [0b00010000#8, 0b00010001#8, 0b00010010#8, 0b00010011#8, 0b00010100#8, 0b00010101#8, 0b00010110#8, 0b00010111#8,
      0b00011000#8, 0b00011001#8, 0b00011010#8, 0b00011011#8, 0b00011100#8, 0b00011101#8, 0b00011110#8, 0b00011111#8].map decodedWith =
    [.unmapped 0x10#8, .ldDE_d16 0x1234#16, .ldAtDE_A, .unmapped 0x13#8, .unmapped 0x14#8, .unmapped 0x15#8, .ldD_d8 0x34#8, .unmapped 0x17#8,
      .unmapped 0x18#8, .unmapped 0x19#8, .ldA_atDE, .unmapped 0x1B#8, .unmapped 0x1C#8, .unmapped 0x1D#8, .ldE_d8 0x34#8, .unmapped 0x1F#8].map some := by decide

/-- R69, row 2x; the immediates are the bytes 0x34, 0x12. -/
theorem test_decode_row_2 :
    [0b00100000#8, 0b00100001#8, 0b00100010#8, 0b00100011#8, 0b00100100#8, 0b00100101#8, 0b00100110#8, 0b00100111#8,
      0b00101000#8, 0b00101001#8, 0b00101010#8, 0b00101011#8, 0b00101100#8, 0b00101101#8, 0b00101110#8, 0b00101111#8].map decodedWith =
    [.unmapped 0x20#8, .ldHL_d16 0x1234#16, .ldAtHLinc_A, .unmapped 0x23#8, .unmapped 0x24#8, .unmapped 0x25#8, .ldH_d8 0x34#8, .daa,
      .unmapped 0x28#8, .unmapped 0x29#8, .ldA_atHLinc, .unmapped 0x2B#8, .unmapped 0x2C#8, .unmapped 0x2D#8, .ldL_d8 0x34#8, .unmapped 0x2F#8].map some := by decide

/-- R69, row 3x; the immediates are the bytes 0x34, 0x12. -/
theorem test_decode_row_3 :
    [0b00110000#8, 0b00110001#8, 0b00110010#8, 0b00110011#8, 0b00110100#8, 0b00110101#8, 0b00110110#8, 0b00110111#8,
      0b00111000#8, 0b00111001#8, 0b00111010#8, 0b00111011#8, 0b00111100#8, 0b00111101#8, 0b00111110#8, 0b00111111#8].map decodedWith =
    [.unmapped 0x30#8, .ldSP_d16 0x1234#16, .ldAtHLdec_A, .unmapped 0x33#8, .unmapped 0x34#8, .unmapped 0x35#8, .unmapped 0x36#8, .unmapped 0x37#8,
      .unmapped 0x38#8, .unmapped 0x39#8, .ldA_atHLdec, .unmapped 0x3B#8, .unmapped 0x3C#8, .unmapped 0x3D#8, .ldA_d8 0x34#8, .unmapped 0x3F#8].map some := by decide

/-- R69, row 4x; the immediates are the bytes 0x34, 0x12. -/
theorem test_decode_row_4 :
    [0b01000000#8, 0b01000001#8, 0b01000010#8, 0b01000011#8, 0b01000100#8, 0b01000101#8, 0b01000110#8, 0b01000111#8,
      0b01001000#8, 0b01001001#8, 0b01001010#8, 0b01001011#8, 0b01001100#8, 0b01001101#8, 0b01001110#8, 0b01001111#8].map decodedWith =
    [.ldB_B, .ldB_C, .ldB_D, .ldB_E, .ldB_H, .ldB_L, .ldB_atHL, .ldB_A,
      .ldC_B, .ldC_C, .ldC_D, .ldC_E, .ldC_H, .ldC_L, .ldC_atHL, .ldC_A].map some := by decide

/-- R69, row 5x; the immediates are the bytes 0x34, 0x12. -/
theorem test_decode_row_5 :
    [0b01010000#8, 0b01010001#8, 0b01010010#8, 0b01010011#8, 0b01010100#8, 0b01010101#8, 0b01010110#8, 0b01010111#8,
      0b01011000#8, 0b01011001#8, 0b01011010#8, 0b01011011#8, 0b01011100#8, 0b01011101#8, 0b01011110#8, 0b01011111#8].map decodedWith =
    [.ldD_B, .ldD_C, .ldD_D, .ldD_E, .ldD_H, .ldD_L, .ldD_atHL, .ldD_A,
      .ldE_B, .ldE_C, .ldE_D, .ldE_E, .ldE_H, .ldE_L, .ldE_atHL, .ldE_A].map some := by decide

/-- R69, row 6x; the immediates are the bytes 0x34, 0x12. -/
theorem test_decode_row_6 :
    [0b01100000#8, 0b01100001#8, 0b01100010#8, 0b01100011#8, 0b01100100#8, 0b01100101#8, 0b01100110#8, 0b01100111#8,
      0b01101000#8, 0b01101001#8, 0b01101010#8, 0b01101011#8, 0b01101100#8, 0b01101101#8, 0b01101110#8, 0b01101111#8].map decodedWith =
    [.ldH_B, .ldH_C, .ldH_D, .ldH_E, .ldH_H, .ldH_L, .ldH_atHL, .ldH_A,
      .ldL_B, .ldL_C, .ldL_D, .ldL_E, .ldL_H, .ldL_L, .ldL_atHL, .ldL_A].map some := by decide

/-- R69, row 7x; the immediates are the bytes 0x34, 0x12. -/
theorem test_decode_row_7 :
    [0b01110000#8, 0b01110001#8, 0b01110010#8, 0b01110011#8, 0b01110100#8, 0b01110101#8, 0b01110110#8, 0b01110111#8,
      0b01111000#8, 0b01111001#8, 0b01111010#8, 0b01111011#8, 0b01111100#8, 0b01111101#8, 0b01111110#8, 0b01111111#8].map decodedWith =
    [.ldAtHL_B, .ldAtHL_C, .ldAtHL_D, .ldAtHL_E, .ldAtHL_H, .ldAtHL_L, .unmapped 0x76#8, .ldAtHL_A,
      .ldA_B, .ldA_C, .ldA_D, .ldA_E, .ldA_H, .ldA_L, .ldA_atHL, .ldA_A].map some := by decide

/-- R69, row 8x; the immediates are the bytes 0x34, 0x12. -/
theorem test_decode_row_8 :
    [0b10000000#8, 0b10000001#8, 0b10000010#8, 0b10000011#8, 0b10000100#8, 0b10000101#8, 0b10000110#8, 0b10000111#8,
      0b10001000#8, 0b10001001#8, 0b10001010#8, 0b10001011#8, 0b10001100#8, 0b10001101#8, 0b10001110#8, 0b10001111#8].map decodedWith =
    [.addA_B, .addA_C, .addA_D, .addA_E, .addA_H, .addA_L, .addA_atHL, .addA_A,
      .adcA_B, .adcA_C, .adcA_D, .adcA_E, .adcA_H, .adcA_L, .adcA_atHL, .adcA_A].map some := by decide

/-- R69, row 9x; the immediates are the bytes 0x34, 0x12. -/
theorem test_decode_row_9 :
    [0b10010000#8, 0b10010001#8, 0b10010010#8, 0b10010011#8, 0b10010100#8, 0b10010101#8, 0b10010110#8, 0b10010111#8,
      0b10011000#8, 0b10011001#8, 0b10011010#8, 0b10011011#8, 0b10011100#8, 0b10011101#8, 0b10011110#8, 0b10011111#8].map decodedWith =
    [.subA_B, .subA_C, .subA_D, .subA_E, .subA_H, .subA_L, .subA_atHL, .subA_A,
      .sbcA_B, .sbcA_C, .sbcA_D, .sbcA_E, .sbcA_H, .sbcA_L, .sbcA_atHL, .sbcA_A].map some := by decide

/-- R69, row Ax; the immediates are the bytes 0x34, 0x12. -/
theorem test_decode_row_A :
    [0b10100000#8, 0b10100001#8, 0b10100010#8, 0b10100011#8, 0b10100100#8, 0b10100101#8, 0b10100110#8, 0b10100111#8,
      0b10101000#8, 0b10101001#8, 0b10101010#8, 0b10101011#8, 0b10101100#8, 0b10101101#8, 0b10101110#8, 0b10101111#8].map decodedWith =
    [.andA_B, .andA_C, .andA_D, .andA_E, .andA_H, .andA_L, .andA_atHL, .andA_A,
      .xorA_B, .xorA_C, .xorA_D, .xorA_E, .xorA_H, .xorA_L, .xorA_atHL, .xorA_A].map some := by decide

/-- R69, row Bx; the immediates are the bytes 0x34, 0x12. -/
theorem test_decode_row_B :
    [0b10110000#8, 0b10110001#8, 0b10110010#8, 0b10110011#8, 0b10110100#8, 0b10110101#8, 0b10110110#8, 0b10110111#8,
      0b10111000#8, 0b10111001#8, 0b10111010#8, 0b10111011#8, 0b10111100#8, 0b10111101#8, 0b10111110#8, 0b10111111#8].map decodedWith =
    [.orA_B, .orA_C, .orA_D, .orA_E, .orA_H, .orA_L, .orA_atHL, .orA_A,
      .cpA_B, .cpA_C, .cpA_D, .cpA_E, .cpA_H, .cpA_L, .cpA_atHL, .cpA_A].map some := by decide

/-- R69, row Cx; the immediates are the bytes 0x34, 0x12. -/
theorem test_decode_row_C :
    [0b11000000#8, 0b11000001#8, 0b11000010#8, 0b11000011#8, 0b11000100#8, 0b11000101#8, 0b11000110#8, 0b11000111#8,
      0b11001000#8, 0b11001001#8, 0b11001010#8, 0b11001011#8, 0b11001100#8, 0b11001101#8, 0b11001110#8, 0b11001111#8].map decodedWith =
    [.unmapped 0xC0#8, .popBC, .unmapped 0xC2#8, .unmapped 0xC3#8, .unmapped 0xC4#8, .pushBC, .addA_d8 0x34#8, .unmapped 0xC7#8,
      .unmapped 0xC8#8, .unmapped 0xC9#8, .unmapped 0xCA#8, .unmapped 0xCB#8, .unmapped 0xCC#8, .unmapped 0xCD#8, .adcA_d8 0x34#8, .unmapped 0xCF#8].map some := by decide

/-- R69, row Dx; the immediates are the bytes 0x34, 0x12. -/
theorem test_decode_row_D :
    [0b11010000#8, 0b11010001#8, 0b11010010#8, 0b11010011#8, 0b11010100#8, 0b11010101#8, 0b11010110#8, 0b11010111#8,
      0b11011000#8, 0b11011001#8, 0b11011010#8, 0b11011011#8, 0b11011100#8, 0b11011101#8, 0b11011110#8, 0b11011111#8].map decodedWith =
    [.unmapped 0xD0#8, .popDE, .unmapped 0xD2#8, .unmapped 0xD3#8, .unmapped 0xD4#8, .pushDE, .subA_d8 0x34#8, .unmapped 0xD7#8,
      .unmapped 0xD8#8, .unmapped 0xD9#8, .unmapped 0xDA#8, .unmapped 0xDB#8, .unmapped 0xDC#8, .unmapped 0xDD#8, .sbcA_d8 0x34#8, .unmapped 0xDF#8].map some := by decide

/-- R69, row Ex; the immediates are the bytes 0x34, 0x12. -/
theorem test_decode_row_E :
    [0b11100000#8, 0b11100001#8, 0b11100010#8, 0b11100011#8, 0b11100100#8, 0b11100101#8, 0b11100110#8, 0b11100111#8,
      0b11101000#8, 0b11101001#8, 0b11101010#8, 0b11101011#8, 0b11101100#8, 0b11101101#8, 0b11101110#8, 0b11101111#8].map decodedWith =
    [.ldhAtA8_A 0x34#8, .popHL, .ldAtC_A, .unmapped 0xE3#8, .unmapped 0xE4#8, .pushHL, .andA_d8 0x34#8, .unmapped 0xE7#8,
      .unmapped 0xE8#8, .unmapped 0xE9#8, .ldAtA16_A 0x1234#16, .unmapped 0xEB#8, .unmapped 0xEC#8, .unmapped 0xED#8, .xorA_d8 0x34#8, .unmapped 0xEF#8].map some := by decide

/-- R69, row Fx; the immediates are the bytes 0x34, 0x12. -/
theorem test_decode_row_F :
    [0b11110000#8, 0b11110001#8, 0b11110010#8, 0b11110011#8, 0b11110100#8, 0b11110101#8, 0b11110110#8, 0b11110111#8,
      0b11111000#8, 0b11111001#8, 0b11111010#8, 0b11111011#8, 0b11111100#8, 0b11111101#8, 0b11111110#8, 0b11111111#8].map decodedWith =
    [.ldhA_atA8 0x34#8, .popAF, .ldA_atC, .unmapped 0xF3#8, .unmapped 0xF4#8, .pushAF, .orA_d8 0x34#8, .unmapped 0xF7#8,
      .unmapped 0xF8#8, .unmapped 0xF9#8, .ldA_atA16 0x1234#16, .unmapped 0xFB#8, .unmapped 0xFC#8, .unmapped 0xFD#8, .cpA_d8 0x34#8, .unmapped 0xFF#8].map some := by decide

/-! ### The ALU -/

/-- 95_test_vectors.md V40, add8. -/
theorem test_alu_add8 :
    addW 0x00#8 0x00#8 false = (0x00#8, ⟨true, false, false, false⟩) ∧
    addW 0x0F#8 0x01#8 false = (0x10#8, ⟨false, false, true, false⟩) ∧
    addW 0x08#8 0x08#8 false = (0x10#8, ⟨false, false, true, false⟩) ∧
    addW 0xF0#8 0x10#8 false = (0x00#8, ⟨true, false, false, true⟩) ∧
    addW 0xFF#8 0x01#8 false = (0x00#8, ⟨true, false, true, true⟩) ∧
    addW 0x3A#8 0xC6#8 false = (0x00#8, ⟨true, false, true, true⟩) ∧
    addW 0x7F#8 0x01#8 false = (0x80#8, ⟨false, false, true, false⟩) ∧
    addW 0x80#8 0x80#8 false = (0x00#8, ⟨true, false, false, true⟩) ∧
    addW 0x05#8 0x05#8 false = (0x0A#8, ⟨false, false, false, false⟩) ∧
    addW 0x0F#8 0x00#8 true = (0x10#8, ⟨false, false, true, false⟩) ∧
    addW 0xFF#8 0x00#8 true = (0x00#8, ⟨true, false, true, true⟩) ∧
    addW 0xFF#8 0xFF#8 true = (0xFF#8, ⟨false, false, true, true⟩) ∧
    addW 0xE1#8 0x0F#8 true = (0xF1#8, ⟨false, false, true, false⟩) := by decide

/-- 95_test_vectors.md V40, sub8. -/
theorem test_alu_sub8 :
    subW 0x00#8 0x00#8 false = (0x00#8, ⟨true, true, false, false⟩) ∧
    subW 0x3E#8 0x3E#8 false = (0x00#8, ⟨true, true, false, false⟩) ∧
    subW 0x10#8 0x01#8 false = (0x0F#8, ⟨false, true, true, false⟩) ∧
    subW 0x3E#8 0x0F#8 false = (0x2F#8, ⟨false, true, true, false⟩) ∧
    subW 0x3E#8 0x40#8 false = (0xFE#8, ⟨false, true, false, true⟩) ∧
    subW 0x00#8 0x01#8 false = (0xFF#8, ⟨false, true, true, true⟩) ∧
    subW 0x80#8 0x01#8 false = (0x7F#8, ⟨false, true, true, false⟩) ∧
    subW 0x00#8 0x00#8 true = (0xFF#8, ⟨false, true, true, true⟩) ∧
    subW 0x00#8 0xFF#8 true = (0x00#8, ⟨true, true, true, true⟩) ∧
    subW 0x10#8 0x0F#8 true = (0x00#8, ⟨true, true, true, false⟩) ∧
    subW 0x10#8 0x10#8 true = (0xFF#8, ⟨false, true, true, true⟩) ∧
    subW 0xFF#8 0xFF#8 true = (0xFF#8, ⟨false, true, true, true⟩) ∧
    subW 0x3B#8 0x2A#8 true = (0x10#8, ⟨false, true, false, false⟩) := by decide

/-- 95_test_vectors.md V40, w16. -/
theorem test_alu_w16 :
    addW 0x00FF#16 0x0001#16 false = (0x0100#16, ⟨false, false, true, false⟩) ∧
    addW 0x00FF#16 0x0000#16 true = (0x0100#16, ⟨false, false, true, false⟩) ∧
    addW 0x0F00#16 0x0100#16 false = (0x1000#16, ⟨false, false, false, false⟩) ∧
    addW 0x1234#16 0x0FCC#16 false = (0x2200#16, ⟨false, false, true, false⟩) ∧
    addW 0x8000#16 0x8000#16 false = (0x0000#16, ⟨true, false, false, true⟩) ∧
    addW 0xFFFF#16 0x0001#16 false = (0x0000#16, ⟨true, false, true, true⟩) ∧
    addW 0xFFFF#16 0xFFFF#16 true = (0xFFFF#16, ⟨false, false, true, true⟩) ∧
    subW 0x0100#16 0x0001#16 false = (0x00FF#16, ⟨false, true, true, false⟩) ∧
    subW 0x1000#16 0x0100#16 false = (0x0F00#16, ⟨false, true, false, false⟩) ∧
    subW 0x1234#16 0x1234#16 false = (0x0000#16, ⟨true, true, false, false⟩) ∧
    subW 0x0000#16 0x0001#16 false = (0xFFFF#16, ⟨false, true, true, true⟩) ∧
    subW 0x0100#16 0x00FF#16 true = (0x0000#16, ⟨true, true, true, false⟩) ∧
    subW 0x0000#16 0xFFFF#16 true = (0x0000#16, ⟨true, true, true, true⟩) := by decide

/-- 95_test_vectors.md V40, bitwise. -/
theorem test_alu_bitwise :
    andByte 0x0A#8 0x06#8 = (0x02#8, ⟨false, false, true, false⟩) ∧
    andByte 0xF0#8 0x0F#8 = (0x00#8, ⟨true, false, true, false⟩) ∧
    andByte 0xFF#8 0xFF#8 = (0xFF#8, ⟨false, false, true, false⟩) ∧
    andByte 0x00#8 0x00#8 = (0x00#8, ⟨true, false, true, false⟩) ∧
    orByte 0x50#8 0x0A#8 = (0x5A#8, ⟨false, false, false, false⟩) ∧
    orByte 0x80#8 0x01#8 = (0x81#8, ⟨false, false, false, false⟩) ∧
    orByte 0x00#8 0x00#8 = (0x00#8, ⟨true, false, false, false⟩) ∧
    xorByte 0xFF#8 0x0F#8 = (0xF0#8, ⟨false, false, false, false⟩) ∧
    xorByte 0xA5#8 0xA5#8 = (0x00#8, ⟨true, false, false, false⟩) ∧
    xorByte 0x00#8 0xFF#8 = (0xFF#8, ⟨false, false, false, false⟩) := by decide

/-- 95_test_vectors.md V40, decimal. -/
theorem test_alu_decimal :
    decimalAdjust 0x7D#8 ⟨false, false, false, false⟩ = (0x83#8, ⟨false, false, false, false⟩) ∧
    decimalAdjust 0x32#8 ⟨false, false, true, true⟩ = (0x98#8, ⟨false, false, false, true⟩) ∧
    decimalAdjust 0x9A#8 ⟨false, false, false, false⟩ = (0x00#8, ⟨true, false, false, true⟩) ∧
    decimalAdjust 0xA0#8 ⟨false, false, false, false⟩ = (0x00#8, ⟨true, false, false, true⟩) ∧
    decimalAdjust 0x0A#8 ⟨false, false, false, false⟩ = (0x10#8, ⟨false, false, false, false⟩) ∧
    decimalAdjust 0x10#8 ⟨false, false, true, false⟩ = (0x16#8, ⟨false, false, false, false⟩) ∧
    decimalAdjust 0x99#8 ⟨false, false, false, false⟩ = (0x99#8, ⟨false, false, false, false⟩) ∧
    decimalAdjust 0x00#8 ⟨true, false, false, false⟩ = (0x00#8, ⟨true, false, false, false⟩) ∧
    decimalAdjust 0x4B#8 ⟨false, true, true, false⟩ = (0x45#8, ⟨false, true, false, false⟩) ∧
    decimalAdjust 0xFF#8 ⟨false, true, true, true⟩ = (0x99#8, ⟨false, true, false, true⟩) ∧
    decimalAdjust 0x0F#8 ⟨false, true, true, false⟩ = (0x09#8, ⟨false, true, false, false⟩) ∧
    decimalAdjust 0x00#8 ⟨true, true, false, false⟩ = (0x00#8, ⟨true, true, false, false⟩) ∧
    decimalAdjust 0x05#8 ⟨true, true, false, false⟩ = (0x05#8, ⟨false, true, false, false⟩) ∧
    decimalAdjust 0x00#8 ⟨true, false, true, true⟩ = (0x66#8, ⟨false, false, false, true⟩) ∧
    decimalAdjust 0xFF#8 ⟨false, false, false, false⟩ = (0x65#8, ⟨false, false, false, true⟩) ∧
    decimalAdjust 0xF0#8 ⟨false, true, false, true⟩ = (0x90#8, ⟨false, true, false, true⟩) ∧
    decimalAdjust 0x9A#8 ⟨false, true, false, false⟩ = (0x9A#8, ⟨false, true, false, false⟩) := by decide

/-! ### Costs -/

/-- R108 with the `cost_ref` column of opcode_table.json, by opcode byte; 0 marks a byte with no entry. -/
theorem test_reference_costs :
    (List.range 256).map (fun n => costRef (formOfOpcode (BitVec.ofNat 8 n))) =
      [0, 12, 8, 0, 0, 0, 8, 0, 0, 0, 8, 0, 0, 0, 8, 0] ++
      [0, 12, 8, 0, 0, 0, 8, 0, 0, 0, 8, 0, 0, 0, 8, 0] ++
      [0, 12, 8, 0, 0, 0, 8, 4, 0, 0, 8, 0, 0, 0, 8, 0] ++
      [0, 12, 8, 0, 0, 0, 0, 0, 0, 0, 8, 0, 0, 0, 4, 0] ++
      [4, 4, 4, 4, 4, 4, 8, 4, 4, 4, 4, 4, 4, 4, 8, 4] ++
      [4, 4, 4, 4, 4, 4, 8, 4, 4, 4, 4, 4, 4, 4, 8, 4] ++
      [4, 4, 4, 4, 4, 4, 8, 4, 4, 4, 4, 4, 4, 4, 8, 4] ++
      [8, 8, 8, 8, 8, 8, 0, 8, 4, 4, 4, 4, 4, 4, 8, 4] ++
      [4, 4, 4, 4, 4, 4, 8, 4, 4, 4, 4, 4, 4, 4, 8, 4] ++
      [4, 4, 4, 4, 4, 4, 8, 4, 4, 4, 4, 4, 4, 4, 8, 4] ++
      [4, 4, 4, 4, 4, 4, 8, 4, 4, 4, 4, 4, 4, 4, 8, 4] ++
      [4, 4, 4, 4, 4, 4, 8, 4, 4, 4, 4, 4, 4, 4, 8, 4] ++
      [0, 12, 0, 0, 0, 16, 8, 0, 0, 0, 0, 0, 0, 0, 8, 0] ++
      [0, 12, 0, 0, 0, 16, 8, 0, 0, 0, 0, 0, 0, 0, 8, 0] ++
      [12, 12, 8, 0, 0, 16, 8, 0, 0, 0, 16, 0, 0, 0, 8, 0] ++
      [12, 12, 8, 0, 0, 16, 8, 0, 0, 0, 16, 0, 0, 0, 8, 0] := by decide +kernel

/-! ### Dispatch, the fatal stop, and the edges of memory -/

/-- V41-1: an unmapped byte. -/
theorem test_V41_1 :
    let s : State := { State.reset with
      a := 0x11#8, f := Flags.fromByte 0x50#8, sp := 0x1234#16, pc := 0x0100#16, cyc := 100 }
    stepReference s =
      { s with pc := 0x0101#16, status := .fault, faultInfo := some { opcode := 0x00#8, pc := 0x0101#16 } } ∧
    stepAccesses s = [.read 0x0100#16 0x00#8] := by decide

/-- V41-2: a step after a fault does nothing. -/
theorem test_V41_2 :
    let s : State := { State.reset with
      pc := 0x0101#16, status := .fault, faultInfo := some { opcode := 0x76#8, pc := 0x0101#16 },
      mem := [(0x0100, 0x76#8), (0x0101, 0x3E#8), (0x0102, 0x01#8)] }
    stepReference s = s ∧ stepAccesses s = [] := by decide

/-- V41-3: a fault with the opcode at 0xFFFF. -/
theorem test_V41_3 :
    let t := stepReference { State.reset with pc := 0xFFFF#16, mem := [(0xFFFF, 0xCB#8)] }
    t.status = .fault ∧ t.faultInfo = some { opcode := 0xCB#8, pc := 0x0000#16 } ∧ t.pc = 0x0000#16 := by decide

/-- V41-4, its first step: `PC` wraps inside an instruction. -/
theorem test_V41_4 :
    let t := stepReference { State.reset with pc := 0xFFFF#16, mem := [(0x0000, 0x77#8), (0xFFFF, 0x3E#8)] }
    t.a = 0x77#8 ∧ t.pc = 0x0001#16 ∧ t.cyc = 4 := by decide

/-- V41-5: `Fetch16` across the wrap. -/
theorem test_V41_5 :
    let t := stepReference { State.reset with pc := 0xFFFE#16, mem := [(0x0000, 0x12#8), (0xFFFE, 0x21#8), (0xFFFF, 0x34#8)] }
    t.hl = 0x1234#16 ∧ t.pc = 0x0001#16 ∧ t.cyc = 12 := by decide

/-- V41-6: `cyc` wraps at `FRAME_CYCLES`. -/
theorem test_V41_6 :
    let t := stepReference { State.reset with pc := 0x0100#16, sp := 0xD000#16, cyc := 70220, mem := [(0x0100, 0xF5#8)] }
    t.cyc = 12 ∧ t.sp = 0xCFFE#16 := by decide

/-- V41-7, its second step: an immediate equal to an unmapped byte is data. -/
theorem test_V41_7 :
    let t := stepReference { State.reset with pc := 0x0102#16, mem := [(0x0102, 0x06#8), (0x0103, 0xCB#8)] }
    t.getR8 .b = 0xCB#8 ∧ t.pc = 0x0104#16 ∧ t.status = .run := by decide

/-- V10: the value primitives and the flag byte. -/
theorem test_V10 :
    wordLe 0x34#8 0x12#8 = 0x1234#16 ∧ makeAddress 0xFF#8 0x80#8 = 0xFF80#16 ∧ makeAddress 0x12#8 0x34#8 = 0x1234#16 ∧
    loByte 0xBEEF#16 = 0xEF#8 ∧ hiByte 0xBEEF#16 = 0xBE#8 ∧ (⟨true, false, true, false⟩ : Flags).toByte = 0xA0#8 ∧
    Flags.fromByte 0x5F#8 = ⟨false, true, false, true⟩ ∧
    (({ State.reset with de := 0x0102#16 } : State).setR8 .d 0x7F#8).de = 0x7F02#16 := by decide

/-- R5: the two ends of a SignedByte. -/
theorem test_signedByte : signedByte 0x7F#8 = 127 ∧ signedByte 0x80#8 = -128 := by decide

/-- R15: one flag set alone, and a masked update of `Z` and `C`. -/
theorem test_flag_updates :
    (Flags.fromByte 0x30#8).set .zero true = Flags.fromByte 0xB0#8 ∧ (Flags.fromByte 0xB0#8).get .subtract = false ∧
    (Flags.fromByte 0x30#8).assignMasked (Flags.fromByte 0x90#8) (Flags.fromByte 0xC0#8) = Flags.fromByte 0xA0#8 := by decide

/-- R42: writing the byte an unlisted address reads as lists nothing. -/
theorem test_memory_canonical :
    Memory.write [(3, 0x01#8), (7, 0x02#8)] 7 0x00#8 = [(3, 0x01#8)] ∧
    Memory.write [(3, 0x01#8), (7, 0x02#8)] 5 0x09#8 = [(3, 0x01#8), (5, 0x09#8), (7, 0x02#8)] := by decide

/-- A placed instruction is the one the next step runs (here from a core in `FAULT`). -/
theorem test_withFetchWord :
    (State.withFetchWord { State.reset with status := .fault } 24 0xC00021).fetchInstr.1 = .ldHL_d16 0xC000#16 := by
  decide

/-! ### One step of each vector of V42, V43 and V44 -/

/-- 95_test_vectors.md V42-1, `LD B,A`. -/
theorem test_V42_1 :
    let s : State := { State.reset with
      pc := 0x0100#16, a := 0x5A#8, mem := [(0x0100, 0x47#8)] }
    let t := stepReference s
    stepAccesses s = [.read 0x0100#16 0x47#8] ∧
    t.cyc = 4 ∧
    (t.a, t.f.toByte, t.bc, t.de, t.hl, t.sp, t.pc) =
      (0x5A#8, 0x00#8, 0x5A00#16, 0x0000#16, 0x0000#16, 0x0000#16, 0x0101#16) := by decide

/-- 95_test_vectors.md V42-2, `LD H,L`. -/
theorem test_V42_2 :
    let s : State := { State.reset with
      pc := 0x0100#16, hl := 0x12AB#16, mem := [(0x0100, 0x65#8)] }
    let t := stepReference s
    stepAccesses s = [.read 0x0100#16 0x65#8] ∧
    t.cyc = 4 ∧
    (t.a, t.f.toByte, t.bc, t.de, t.hl, t.sp, t.pc) =
      (0x00#8, 0x00#8, 0x0000#16, 0x0000#16, 0xABAB#16, 0x0000#16, 0x0101#16) := by decide

/-- 95_test_vectors.md V42-3, `LD A,A`. -/
theorem test_V42_3 :
    let s : State := { State.reset with
      pc := 0x0100#16, a := 0x33#8, f := Flags.fromByte 0xF0#8, mem := [(0x0100, 0x7F#8)] }
    let t := stepReference s
    stepAccesses s = [.read 0x0100#16 0x7F#8] ∧
    t.cyc = 4 ∧
    (t.a, t.f.toByte, t.bc, t.de, t.hl, t.sp, t.pc) =
      (0x33#8, 0xF0#8, 0x0000#16, 0x0000#16, 0x0000#16, 0x0000#16, 0x0101#16) := by decide

/-- 95_test_vectors.md V42-4, `LD E,d8`. -/
theorem test_V42_4 :
    let s : State := { State.reset with
      pc := 0x0100#16, mem := [(0x0100, 0x1E#8), (0x0101, 0x9C#8)] }
    let t := stepReference s
    stepAccesses s = [.read 0x0100#16 0x1E#8, .read 0x0101#16 0x9C#8] ∧
    t.cyc = 8 ∧
    (t.a, t.f.toByte, t.bc, t.de, t.hl, t.sp, t.pc) =
      (0x00#8, 0x00#8, 0x0000#16, 0x009C#16, 0x0000#16, 0x0000#16, 0x0102#16) := by decide

/-- 95_test_vectors.md V42-5, `LD A,d8`. -/
theorem test_V42_5 :
    let s : State := { State.reset with
      pc := 0x0100#16, mem := [(0x0100, 0x3E#8), (0x0101, 0x05#8)] }
    let t := stepReference s
    stepAccesses s = [.read 0x0100#16 0x3E#8, .read 0x0101#16 0x05#8] ∧
    t.cyc = 4 ∧
    (t.a, t.f.toByte, t.bc, t.de, t.hl, t.sp, t.pc) =
      (0x05#8, 0x00#8, 0x0000#16, 0x0000#16, 0x0000#16, 0x0000#16, 0x0102#16) := by decide

/-- 95_test_vectors.md V42-6, `LD D,(HL)`. -/
theorem test_V42_6 :
    let s : State := { State.reset with
      pc := 0x0100#16, hl := 0xC123#16, mem := [(0x0100, 0x56#8), (0xC123, 0x77#8)] }
    let t := stepReference s
    stepAccesses s = [.read 0x0100#16 0x56#8, .read 0xC123#16 0x77#8] ∧
    t.cyc = 8 ∧
    (t.a, t.f.toByte, t.bc, t.de, t.hl, t.sp, t.pc) =
      (0x00#8, 0x00#8, 0x0000#16, 0x7700#16, 0xC123#16, 0x0000#16, 0x0101#16) := by decide

/-- 95_test_vectors.md V42-7, `LD L,(HL)`. -/
theorem test_V42_7 :
    let s : State := { State.reset with
      pc := 0x0100#16, hl := 0xC123#16, mem := [(0x0100, 0x6E#8), (0xC123, 0x77#8)] }
    let t := stepReference s
    stepAccesses s = [.read 0x0100#16 0x6E#8, .read 0xC123#16 0x77#8] ∧
    t.cyc = 8 ∧
    (t.a, t.f.toByte, t.bc, t.de, t.hl, t.sp, t.pc) =
      (0x00#8, 0x00#8, 0x0000#16, 0x0000#16, 0xC177#16, 0x0000#16, 0x0101#16) := by decide

/-- 95_test_vectors.md V42-8, `LD A,(BC)`. -/
theorem test_V42_8 :
    let s : State := { State.reset with
      pc := 0x0100#16, bc := 0xC200#16, mem := [(0x0100, 0x0A#8), (0xC200, 0x11#8)] }
    let t := stepReference s
    stepAccesses s = [.read 0x0100#16 0x0A#8, .read 0xC200#16 0x11#8] ∧
    t.cyc = 8 ∧
    (t.a, t.f.toByte, t.bc, t.de, t.hl, t.sp, t.pc) =
      (0x11#8, 0x00#8, 0xC200#16, 0x0000#16, 0x0000#16, 0x0000#16, 0x0101#16) := by decide

/-- 95_test_vectors.md V42-9, `LD A,(DE)`. -/
theorem test_V42_9 :
    let s : State := { State.reset with
      pc := 0x0100#16, de := 0xC201#16, mem := [(0x0100, 0x1A#8), (0xC201, 0x22#8)] }
    let t := stepReference s
    stepAccesses s = [.read 0x0100#16 0x1A#8, .read 0xC201#16 0x22#8] ∧
    t.cyc = 8 ∧
    (t.a, t.f.toByte, t.bc, t.de, t.hl, t.sp, t.pc) =
      (0x22#8, 0x00#8, 0x0000#16, 0xC201#16, 0x0000#16, 0x0000#16, 0x0101#16) := by decide

/-- 95_test_vectors.md V42-10, `LD A,(a16)`. -/
theorem test_V42_10 :
    let s : State := { State.reset with
      pc := 0x0100#16, mem := [(0x0100, 0xFA#8), (0x0101, 0x34#8), (0x0102, 0xC2#8), (0x34C2, 0x55#8), (0xC234, 0x99#8)] }
    let t := stepReference s
    stepAccesses s = [.read 0x0100#16 0xFA#8, .read 0x0101#16 0x34#8, .read 0x0102#16 0xC2#8, .read 0xC234#16 0x99#8] ∧
    t.cyc = 16 ∧
    (t.a, t.f.toByte, t.bc, t.de, t.hl, t.sp, t.pc) =
      (0x99#8, 0x00#8, 0x0000#16, 0x0000#16, 0x0000#16, 0x0000#16, 0x0103#16) := by decide

/-- 95_test_vectors.md V42-11, `LDH A,(a8)`. -/
theorem test_V42_11 :
    let s : State := { State.reset with
      pc := 0x0100#16, mem := [(0x0100, 0xF0#8), (0x0101, 0x80#8), (0x80FF, 0x24#8), (0xFF80, 0x42#8)] }
    let t := stepReference s
    stepAccesses s = [.read 0x0100#16 0xF0#8, .read 0x0101#16 0x80#8, .read 0xFF80#16 0x42#8] ∧
    t.cyc = 12 ∧
    (t.a, t.f.toByte, t.bc, t.de, t.hl, t.sp, t.pc) =
      (0x42#8, 0x00#8, 0x0000#16, 0x0000#16, 0x0000#16, 0x0000#16, 0x0102#16) := by decide

/-- 95_test_vectors.md V42-12, `LD A,(C)`. -/
theorem test_V42_12 :
    let s : State := { State.reset with
      pc := 0x0100#16, bc := 0x1281#16, mem := [(0x0100, 0xF2#8), (0xFF81, 0x43#8)] }
    let t := stepReference s
    stepAccesses s = [.read 0x0100#16 0xF2#8, .read 0xFF81#16 0x43#8] ∧
    t.cyc = 8 ∧
    (t.a, t.f.toByte, t.bc, t.de, t.hl, t.sp, t.pc) =
      (0x43#8, 0x00#8, 0x1281#16, 0x0000#16, 0x0000#16, 0x0000#16, 0x0101#16) := by decide

/-- 95_test_vectors.md V42-13, `LD (HL),B`. -/
theorem test_V42_13 :
    let s : State := { State.reset with
      pc := 0x0100#16, bc := 0xAB00#16, hl := 0xC300#16, mem := [(0x0100, 0x70#8)] }
    let t := stepReference s
    stepAccesses s = [.read 0x0100#16 0x70#8, .write 0xC300#16 0xAB#8] ∧
    t.cyc = 8 ∧
    (t.a, t.f.toByte, t.bc, t.de, t.hl, t.sp, t.pc) =
      (0x00#8, 0x00#8, 0xAB00#16, 0x0000#16, 0xC300#16, 0x0000#16, 0x0101#16) ∧
    t.readByte 0xC300#16 = 0xAB#8 := by decide

/-- 95_test_vectors.md V42-14, `LD (HL),H`. -/
theorem test_V42_14 :
    let s : State := { State.reset with
      pc := 0x0100#16, hl := 0xC3C4#16, mem := [(0x0100, 0x74#8)] }
    let t := stepReference s
    stepAccesses s = [.read 0x0100#16 0x74#8, .write 0xC3C4#16 0xC3#8] ∧
    t.cyc = 8 ∧
    (t.a, t.f.toByte, t.bc, t.de, t.hl, t.sp, t.pc) =
      (0x00#8, 0x00#8, 0x0000#16, 0x0000#16, 0xC3C4#16, 0x0000#16, 0x0101#16) ∧
    t.readByte 0xC3C4#16 = 0xC3#8 := by decide

/-- 95_test_vectors.md V42-15, `LD (BC),A`. -/
theorem test_V42_15 :
    let s : State := { State.reset with
      pc := 0x0100#16, a := 0x5A#8, bc := 0xC400#16, mem := [(0x0100, 0x02#8)] }
    let t := stepReference s
    stepAccesses s = [.read 0x0100#16 0x02#8, .write 0xC400#16 0x5A#8] ∧
    t.cyc = 8 ∧
    (t.a, t.f.toByte, t.bc, t.de, t.hl, t.sp, t.pc) =
      (0x5A#8, 0x00#8, 0xC400#16, 0x0000#16, 0x0000#16, 0x0000#16, 0x0101#16) ∧
    t.readByte 0xC400#16 = 0x5A#8 := by decide

/-- 95_test_vectors.md V42-16, `LD (DE),A`. -/
theorem test_V42_16 :
    let s : State := { State.reset with
      pc := 0x0100#16, a := 0x5B#8, de := 0xC401#16, mem := [(0x0100, 0x12#8)] }
    let t := stepReference s
    stepAccesses s = [.read 0x0100#16 0x12#8, .write 0xC401#16 0x5B#8] ∧
    t.cyc = 8 ∧
    (t.a, t.f.toByte, t.bc, t.de, t.hl, t.sp, t.pc) =
      (0x5B#8, 0x00#8, 0x0000#16, 0xC401#16, 0x0000#16, 0x0000#16, 0x0101#16) ∧
    t.readByte 0xC401#16 = 0x5B#8 := by decide

/-- 95_test_vectors.md V42-17, `LD (a16),A`. -/
theorem test_V42_17 :
    let s : State := { State.reset with
      pc := 0x0100#16, a := 0x5C#8, mem := [(0x0100, 0xEA#8), (0x0101, 0x78#8), (0x0102, 0x56#8)] }
    let t := stepReference s
    stepAccesses s = [.read 0x0100#16 0xEA#8, .read 0x0101#16 0x78#8, .read 0x0102#16 0x56#8, .write 0x5678#16 0x5C#8] ∧
    t.cyc = 16 ∧
    (t.a, t.f.toByte, t.bc, t.de, t.hl, t.sp, t.pc) =
      (0x5C#8, 0x00#8, 0x0000#16, 0x0000#16, 0x0000#16, 0x0000#16, 0x0103#16) ∧
    t.readByte 0x5678#16 = 0x5C#8 := by decide

/-- 95_test_vectors.md V42-18, `LDH (a8),A`. -/
theorem test_V42_18 :
    let s : State := { State.reset with
      pc := 0x0100#16, a := 0x5D#8, mem := [(0x0100, 0xE0#8), (0x0101, 0x01#8)] }
    let t := stepReference s
    stepAccesses s = [.read 0x0100#16 0xE0#8, .read 0x0101#16 0x01#8, .write 0xFF01#16 0x5D#8] ∧
    t.cyc = 12 ∧
    (t.a, t.f.toByte, t.bc, t.de, t.hl, t.sp, t.pc) =
      (0x5D#8, 0x00#8, 0x0000#16, 0x0000#16, 0x0000#16, 0x0000#16, 0x0102#16) ∧
    t.readByte 0xFF01#16 = 0x5D#8 := by decide

/-- 95_test_vectors.md V42-19, `LD (C),A`. -/
theorem test_V42_19 :
    let s : State := { State.reset with
      pc := 0x0100#16, a := 0x5E#8, bc := 0x00FF#16, mem := [(0x0100, 0xE2#8)] }
    let t := stepReference s
    stepAccesses s = [.read 0x0100#16 0xE2#8, .write 0xFFFF#16 0x5E#8] ∧
    t.cyc = 8 ∧
    (t.a, t.f.toByte, t.bc, t.de, t.hl, t.sp, t.pc) =
      (0x5E#8, 0x00#8, 0x00FF#16, 0x0000#16, 0x0000#16, 0x0000#16, 0x0101#16) ∧
    t.readByte 0xFFFF#16 = 0x5E#8 := by decide

/-- 95_test_vectors.md V42-20, `LD (HL+),A, HL wraps up`. -/
theorem test_V42_20 :
    let s : State := { State.reset with
      pc := 0x0100#16, a := 0x5F#8, hl := 0xFFFF#16, mem := [(0x0100, 0x22#8)] }
    let t := stepReference s
    stepAccesses s = [.read 0x0100#16 0x22#8, .write 0xFFFF#16 0x5F#8] ∧
    t.cyc = 8 ∧
    (t.a, t.f.toByte, t.bc, t.de, t.hl, t.sp, t.pc) =
      (0x5F#8, 0x00#8, 0x0000#16, 0x0000#16, 0x0000#16, 0x0000#16, 0x0101#16) ∧
    t.readByte 0xFFFF#16 = 0x5F#8 := by decide

/-- 95_test_vectors.md V42-21, `LD A,(HL+)`. -/
theorem test_V42_21 :
    let s : State := { State.reset with
      pc := 0x0100#16, hl := 0xC0FF#16, mem := [(0x0100, 0x2A#8), (0xC0FF, 0x60#8)] }
    let t := stepReference s
    stepAccesses s = [.read 0x0100#16 0x2A#8, .read 0xC0FF#16 0x60#8] ∧
    t.cyc = 8 ∧
    (t.a, t.f.toByte, t.bc, t.de, t.hl, t.sp, t.pc) =
      (0x60#8, 0x00#8, 0x0000#16, 0x0000#16, 0xC100#16, 0x0000#16, 0x0101#16) := by decide

/-- 95_test_vectors.md V42-22, `LD (HL-),A, HL wraps down`. -/
theorem test_V42_22 :
    let s : State := { State.reset with
      pc := 0x0100#16, a := 0x61#8, hl := 0x0000#16, mem := [(0x0100, 0x32#8)] }
    let t := stepReference s
    stepAccesses s = [.read 0x0100#16 0x32#8, .write 0x0000#16 0x61#8] ∧
    t.cyc = 8 ∧
    (t.a, t.f.toByte, t.bc, t.de, t.hl, t.sp, t.pc) =
      (0x61#8, 0x00#8, 0x0000#16, 0x0000#16, 0xFFFF#16, 0x0000#16, 0x0101#16) ∧
    t.readByte 0x0000#16 = 0x61#8 := by decide

/-- 95_test_vectors.md V42-23, `LD A,(HL-)`. -/
theorem test_V42_23 :
    let s : State := { State.reset with
      pc := 0x0100#16, hl := 0xC100#16, mem := [(0x0100, 0x3A#8), (0xC100, 0x62#8)] }
    let t := stepReference s
    stepAccesses s = [.read 0x0100#16 0x3A#8, .read 0xC100#16 0x62#8] ∧
    t.cyc = 8 ∧
    (t.a, t.f.toByte, t.bc, t.de, t.hl, t.sp, t.pc) =
      (0x62#8, 0x00#8, 0x0000#16, 0x0000#16, 0xC0FF#16, 0x0000#16, 0x0101#16) := by decide

/-- 95_test_vectors.md V43-1, `LD BC,d16`. -/
theorem test_V43_1 :
    let s : State := { State.reset with
      pc := 0x0100#16, mem := [(0x0100, 0x01#8), (0x0101, 0x34#8), (0x0102, 0x12#8)] }
    let t := stepReference s
    stepAccesses s = [.read 0x0100#16 0x01#8, .read 0x0101#16 0x34#8, .read 0x0102#16 0x12#8] ∧
    t.cyc = 12 ∧
    (t.a, t.f.toByte, t.bc, t.de, t.hl, t.sp, t.pc) =
      (0x00#8, 0x00#8, 0x1234#16, 0x0000#16, 0x0000#16, 0x0000#16, 0x0103#16) := by decide

/-- 95_test_vectors.md V43-2, `LD DE,d16`. -/
theorem test_V43_2 :
    let s : State := { State.reset with
      pc := 0x0100#16, mem := [(0x0100, 0x11#8), (0x0101, 0xCD#8), (0x0102, 0xAB#8)] }
    let t := stepReference s
    stepAccesses s = [.read 0x0100#16 0x11#8, .read 0x0101#16 0xCD#8, .read 0x0102#16 0xAB#8] ∧
    t.cyc = 12 ∧
    (t.a, t.f.toByte, t.bc, t.de, t.hl, t.sp, t.pc) =
      (0x00#8, 0x00#8, 0x0000#16, 0xABCD#16, 0x0000#16, 0x0000#16, 0x0103#16) := by decide

/-- 95_test_vectors.md V43-3, `LD HL,d16`. -/
theorem test_V43_3 :
    let s : State := { State.reset with
      pc := 0x0100#16, hl := 0xFFFF#16, mem := [(0x0100, 0x21#8), (0x0102, 0xC0#8)] }
    let t := stepReference s
    stepAccesses s = [.read 0x0100#16 0x21#8, .read 0x0101#16 0x00#8, .read 0x0102#16 0xC0#8] ∧
    t.cyc = 12 ∧
    (t.a, t.f.toByte, t.bc, t.de, t.hl, t.sp, t.pc) =
      (0x00#8, 0x00#8, 0x0000#16, 0x0000#16, 0xC000#16, 0x0000#16, 0x0103#16) := by decide

/-- 95_test_vectors.md V43-4, `LD SP,d16`. -/
theorem test_V43_4 :
    let s : State := { State.reset with
      pc := 0x0100#16, mem := [(0x0100, 0x31#8), (0x0101, 0xFE#8), (0x0102, 0xFF#8)] }
    let t := stepReference s
    stepAccesses s = [.read 0x0100#16 0x31#8, .read 0x0101#16 0xFE#8, .read 0x0102#16 0xFF#8] ∧
    t.cyc = 12 ∧
    (t.a, t.f.toByte, t.bc, t.de, t.hl, t.sp, t.pc) =
      (0x00#8, 0x00#8, 0x0000#16, 0x0000#16, 0x0000#16, 0xFFFE#16, 0x0103#16) := by decide

/-- 95_test_vectors.md V43-5, `PUSH BC`. -/
theorem test_V43_5 :
    let s : State := { State.reset with
      pc := 0x0100#16, bc := 0x1234#16, sp := 0xD000#16, mem := [(0x0100, 0xC5#8)] }
    let t := stepReference s
    stepAccesses s = [.read 0x0100#16 0xC5#8, .write 0xCFFF#16 0x12#8, .write 0xCFFE#16 0x34#8] ∧
    t.cyc = 16 ∧
    (t.a, t.f.toByte, t.bc, t.de, t.hl, t.sp, t.pc) =
      (0x00#8, 0x00#8, 0x1234#16, 0x0000#16, 0x0000#16, 0xCFFE#16, 0x0101#16) ∧
    t.readByte 0xCFFF#16 = 0x12#8 ∧
    t.readByte 0xCFFE#16 = 0x34#8 := by decide

/-- 95_test_vectors.md V43-6, `PUSH HL, SP wraps`. -/
theorem test_V43_6 :
    let s : State := { State.reset with
      pc := 0x0100#16, hl := 0xBEEF#16, sp := 0x0001#16, mem := [(0x0100, 0xE5#8)] }
    let t := stepReference s
    stepAccesses s = [.read 0x0100#16 0xE5#8, .write 0x0000#16 0xBE#8, .write 0xFFFF#16 0xEF#8] ∧
    t.cyc = 16 ∧
    (t.a, t.f.toByte, t.bc, t.de, t.hl, t.sp, t.pc) =
      (0x00#8, 0x00#8, 0x0000#16, 0x0000#16, 0xBEEF#16, 0xFFFF#16, 0x0101#16) ∧
    t.readByte 0x0000#16 = 0xBE#8 ∧
    t.readByte 0xFFFF#16 = 0xEF#8 := by decide

/-- 95_test_vectors.md V43-7, `PUSH AF`. -/
theorem test_V43_7 :
    let s : State := { State.reset with
      pc := 0x0100#16, a := 0x12#8, f := Flags.fromByte 0x30#8, sp := 0xFFFE#16, mem := [(0x0100, 0xF5#8)] }
    let t := stepReference s
    stepAccesses s = [.read 0x0100#16 0xF5#8, .write 0xFFFD#16 0x12#8, .write 0xFFFC#16 0x30#8] ∧
    t.cyc = 16 ∧
    (t.a, t.f.toByte, t.bc, t.de, t.hl, t.sp, t.pc) =
      (0x12#8, 0x30#8, 0x0000#16, 0x0000#16, 0x0000#16, 0xFFFC#16, 0x0101#16) ∧
    t.readByte 0xFFFD#16 = 0x12#8 ∧
    t.readByte 0xFFFC#16 = 0x30#8 := by decide

/-- 95_test_vectors.md V43-8, `POP DE`. -/
theorem test_V43_8 :
    let s : State := { State.reset with
      pc := 0x0100#16, sp := 0xCFFE#16, mem := [(0x0100, 0xD1#8), (0xCFFE, 0x34#8), (0xCFFF, 0x12#8)] }
    let t := stepReference s
    stepAccesses s = [.read 0x0100#16 0xD1#8, .read 0xCFFE#16 0x34#8, .read 0xCFFF#16 0x12#8] ∧
    t.cyc = 12 ∧
    (t.a, t.f.toByte, t.bc, t.de, t.hl, t.sp, t.pc) =
      (0x00#8, 0x00#8, 0x0000#16, 0x1234#16, 0x0000#16, 0xD000#16, 0x0101#16) := by decide

/-- 95_test_vectors.md V43-9, `POP HL, SP wraps`. -/
theorem test_V43_9 :
    let s : State := { State.reset with
      pc := 0x0100#16, sp := 0xFFFF#16, mem := [(0x0000, 0xBE#8), (0x0100, 0xE1#8), (0xFFFF, 0xEF#8)] }
    let t := stepReference s
    stepAccesses s = [.read 0x0100#16 0xE1#8, .read 0xFFFF#16 0xEF#8, .read 0x0000#16 0xBE#8] ∧
    t.cyc = 12 ∧
    (t.a, t.f.toByte, t.bc, t.de, t.hl, t.sp, t.pc) =
      (0x00#8, 0x00#8, 0x0000#16, 0x0000#16, 0xBEEF#16, 0x0001#16, 0x0101#16) := by decide

/-- 95_test_vectors.md V43-10, `POP AF, low nibble dropped`. -/
theorem test_V43_10 :
    let s : State := { State.reset with
      pc := 0x0100#16, sp := 0xCFFE#16, mem := [(0x0100, 0xF1#8), (0xCFFE, 0xFF#8), (0xCFFF, 0x12#8)] }
    let t := stepReference s
    stepAccesses s = [.read 0x0100#16 0xF1#8, .read 0xCFFE#16 0xFF#8, .read 0xCFFF#16 0x12#8] ∧
    t.cyc = 12 ∧
    (t.a, t.f.toByte, t.bc, t.de, t.hl, t.sp, t.pc) =
      (0x12#8, 0xF0#8, 0x0000#16, 0x0000#16, 0x0000#16, 0xD000#16, 0x0101#16) := by decide

/-- 95_test_vectors.md V44-1, `ADD A,B`. -/
theorem test_V44_1 :
    let s : State := { State.reset with
      pc := 0x0100#16, a := 0x3A#8, bc := 0xC600#16, mem := [(0x0100, 0x80#8)] }
    let t := stepReference s
    stepAccesses s = [.read 0x0100#16 0x80#8] ∧
    t.cyc = 4 ∧
    (t.a, t.f.toByte, t.bc, t.de, t.hl, t.sp, t.pc) =
      (0x00#8, 0xB0#8, 0xC600#16, 0x0000#16, 0x0000#16, 0x0000#16, 0x0101#16) := by decide

/-- 95_test_vectors.md V44-2, `ADD A,A`. -/
theorem test_V44_2 :
    let s : State := { State.reset with
      pc := 0x0100#16, a := 0x80#8, mem := [(0x0100, 0x87#8)] }
    let t := stepReference s
    stepAccesses s = [.read 0x0100#16 0x87#8] ∧
    t.cyc = 4 ∧
    (t.a, t.f.toByte, t.bc, t.de, t.hl, t.sp, t.pc) =
      (0x00#8, 0x90#8, 0x0000#16, 0x0000#16, 0x0000#16, 0x0000#16, 0x0101#16) := by decide

/-- 95_test_vectors.md V44-3, `ADD A,(HL)`. -/
theorem test_V44_3 :
    let s : State := { State.reset with
      pc := 0x0100#16, a := 0x3C#8, hl := 0xC000#16, mem := [(0x0100, 0x86#8), (0xC000, 0x12#8)] }
    let t := stepReference s
    stepAccesses s = [.read 0x0100#16 0x86#8, .read 0xC000#16 0x12#8] ∧
    t.cyc = 8 ∧
    (t.a, t.f.toByte, t.bc, t.de, t.hl, t.sp, t.pc) =
      (0x4E#8, 0x00#8, 0x0000#16, 0x0000#16, 0xC000#16, 0x0000#16, 0x0101#16) := by decide

/-- 95_test_vectors.md V44-4, `ADD A,d8`. -/
theorem test_V44_4 :
    let s : State := { State.reset with
      pc := 0x0100#16, a := 0x3C#8, mem := [(0x0100, 0xC6#8), (0x0101, 0xFF#8)] }
    let t := stepReference s
    stepAccesses s = [.read 0x0100#16 0xC6#8, .read 0x0101#16 0xFF#8] ∧
    t.cyc = 8 ∧
    (t.a, t.f.toByte, t.bc, t.de, t.hl, t.sp, t.pc) =
      (0x3B#8, 0x30#8, 0x0000#16, 0x0000#16, 0x0000#16, 0x0000#16, 0x0102#16) := by decide

/-- 95_test_vectors.md V44-5, `ADC A,E`. -/
theorem test_V44_5 :
    let s : State := { State.reset with
      pc := 0x0100#16, a := 0xE1#8, f := Flags.fromByte 0x10#8, de := 0x000F#16, mem := [(0x0100, 0x8B#8)] }
    let t := stepReference s
    stepAccesses s = [.read 0x0100#16 0x8B#8] ∧
    t.cyc = 4 ∧
    (t.a, t.f.toByte, t.bc, t.de, t.hl, t.sp, t.pc) =
      (0xF1#8, 0x20#8, 0x0000#16, 0x000F#16, 0x0000#16, 0x0000#16, 0x0101#16) := by decide

/-- 95_test_vectors.md V44-6, `ADC A,A`. -/
theorem test_V44_6 :
    let s : State := { State.reset with
      pc := 0x0100#16, a := 0x80#8, f := Flags.fromByte 0x10#8, mem := [(0x0100, 0x8F#8)] }
    let t := stepReference s
    stepAccesses s = [.read 0x0100#16 0x8F#8] ∧
    t.cyc = 4 ∧
    (t.a, t.f.toByte, t.bc, t.de, t.hl, t.sp, t.pc) =
      (0x01#8, 0x10#8, 0x0000#16, 0x0000#16, 0x0000#16, 0x0000#16, 0x0101#16) := by decide

/-- 95_test_vectors.md V44-7, `ADC A,(HL)`. -/
theorem test_V44_7 :
    let s : State := { State.reset with
      pc := 0x0100#16, a := 0xE1#8, f := Flags.fromByte 0x10#8, hl := 0xC000#16, mem := [(0x0100, 0x8E#8), (0xC000, 0x1E#8)] }
    let t := stepReference s
    stepAccesses s = [.read 0x0100#16 0x8E#8, .read 0xC000#16 0x1E#8] ∧
    t.cyc = 8 ∧
    (t.a, t.f.toByte, t.bc, t.de, t.hl, t.sp, t.pc) =
      (0x00#8, 0xB0#8, 0x0000#16, 0x0000#16, 0xC000#16, 0x0000#16, 0x0101#16) := by decide

/-- 95_test_vectors.md V44-8, `ADC A,d8`. -/
theorem test_V44_8 :
    let s : State := { State.reset with
      pc := 0x0100#16, a := 0xE1#8, f := Flags.fromByte 0x10#8, mem := [(0x0100, 0xCE#8), (0x0101, 0x3B#8)] }
    let t := stepReference s
    stepAccesses s = [.read 0x0100#16 0xCE#8, .read 0x0101#16 0x3B#8] ∧
    t.cyc = 8 ∧
    (t.a, t.f.toByte, t.bc, t.de, t.hl, t.sp, t.pc) =
      (0x1D#8, 0x10#8, 0x0000#16, 0x0000#16, 0x0000#16, 0x0000#16, 0x0102#16) := by decide

/-- 95_test_vectors.md V44-9, `ADC A,d8, carry-in makes all of Z, H, C`. -/
theorem test_V44_9 :
    let s : State := { State.reset with
      pc := 0x0100#16, a := 0xFF#8, f := Flags.fromByte 0x10#8, mem := [(0x0100, 0xCE#8)] }
    let t := stepReference s
    stepAccesses s = [.read 0x0100#16 0xCE#8, .read 0x0101#16 0x00#8] ∧
    t.cyc = 8 ∧
    (t.a, t.f.toByte, t.bc, t.de, t.hl, t.sp, t.pc) =
      (0x00#8, 0xB0#8, 0x0000#16, 0x0000#16, 0x0000#16, 0x0000#16, 0x0102#16) := by decide

/-- 95_test_vectors.md V44-10, `ADC A,d8 with C = 0 ignores Z, N, H in`. -/
theorem test_V44_10 :
    let s : State := { State.reset with
      pc := 0x0100#16, a := 0x01#8, f := Flags.fromByte 0xE0#8, mem := [(0x0100, 0xCE#8), (0x0101, 0x01#8)] }
    let t := stepReference s
    stepAccesses s = [.read 0x0100#16 0xCE#8, .read 0x0101#16 0x01#8] ∧
    t.cyc = 8 ∧
    (t.a, t.f.toByte, t.bc, t.de, t.hl, t.sp, t.pc) =
      (0x02#8, 0x00#8, 0x0000#16, 0x0000#16, 0x0000#16, 0x0000#16, 0x0102#16) := by decide

/-- 95_test_vectors.md V44-11, `SUB A,E`. -/
theorem test_V44_11 :
    let s : State := { State.reset with
      pc := 0x0100#16, a := 0x3E#8, de := 0x003E#16, mem := [(0x0100, 0x93#8)] }
    let t := stepReference s
    stepAccesses s = [.read 0x0100#16 0x93#8] ∧
    t.cyc = 4 ∧
    (t.a, t.f.toByte, t.bc, t.de, t.hl, t.sp, t.pc) =
      (0x00#8, 0xC0#8, 0x0000#16, 0x003E#16, 0x0000#16, 0x0000#16, 0x0101#16) := by decide

/-- 95_test_vectors.md V44-12, `SUB A,A`. -/
theorem test_V44_12 :
    let s : State := { State.reset with
      pc := 0x0100#16, a := 0x77#8, f := Flags.fromByte 0x10#8, mem := [(0x0100, 0x97#8)] }
    let t := stepReference s
    stepAccesses s = [.read 0x0100#16 0x97#8] ∧
    t.cyc = 4 ∧
    (t.a, t.f.toByte, t.bc, t.de, t.hl, t.sp, t.pc) =
      (0x00#8, 0xC0#8, 0x0000#16, 0x0000#16, 0x0000#16, 0x0000#16, 0x0101#16) := by decide

/-- 95_test_vectors.md V44-13, `SUB A,(HL)`. -/
theorem test_V44_13 :
    let s : State := { State.reset with
      pc := 0x0100#16, a := 0x3E#8, hl := 0xC000#16, mem := [(0x0100, 0x96#8), (0xC000, 0x40#8)] }
    let t := stepReference s
    stepAccesses s = [.read 0x0100#16 0x96#8, .read 0xC000#16 0x40#8] ∧
    t.cyc = 8 ∧
    (t.a, t.f.toByte, t.bc, t.de, t.hl, t.sp, t.pc) =
      (0xFE#8, 0x50#8, 0x0000#16, 0x0000#16, 0xC000#16, 0x0000#16, 0x0101#16) := by decide

/-- 95_test_vectors.md V44-14, `SUB A,d8`. -/
theorem test_V44_14 :
    let s : State := { State.reset with
      pc := 0x0100#16, a := 0x3E#8, mem := [(0x0100, 0xD6#8), (0x0101, 0x0F#8)] }
    let t := stepReference s
    stepAccesses s = [.read 0x0100#16 0xD6#8, .read 0x0101#16 0x0F#8] ∧
    t.cyc = 8 ∧
    (t.a, t.f.toByte, t.bc, t.de, t.hl, t.sp, t.pc) =
      (0x2F#8, 0x60#8, 0x0000#16, 0x0000#16, 0x0000#16, 0x0000#16, 0x0102#16) := by decide

/-- 95_test_vectors.md V44-15, `SBC A,H`. -/
theorem test_V44_15 :
    let s : State := { State.reset with
      pc := 0x0100#16, a := 0x3B#8, f := Flags.fromByte 0x10#8, hl := 0x2A00#16, mem := [(0x0100, 0x9C#8)] }
    let t := stepReference s
    stepAccesses s = [.read 0x0100#16 0x9C#8] ∧
    t.cyc = 4 ∧
    (t.a, t.f.toByte, t.bc, t.de, t.hl, t.sp, t.pc) =
      (0x10#8, 0x40#8, 0x0000#16, 0x0000#16, 0x2A00#16, 0x0000#16, 0x0101#16) := by decide

/-- 95_test_vectors.md V44-16, `SBC A,A with C = 1`. -/
theorem test_V44_16 :
    let s : State := { State.reset with
      pc := 0x0100#16, a := 0x42#8, f := Flags.fromByte 0x10#8, mem := [(0x0100, 0x9F#8)] }
    let t := stepReference s
    stepAccesses s = [.read 0x0100#16 0x9F#8] ∧
    t.cyc = 4 ∧
    (t.a, t.f.toByte, t.bc, t.de, t.hl, t.sp, t.pc) =
      (0xFF#8, 0x70#8, 0x0000#16, 0x0000#16, 0x0000#16, 0x0000#16, 0x0101#16) := by decide

/-- 95_test_vectors.md V44-17, `SBC A,A with C = 0`. -/
theorem test_V44_17 :
    let s : State := { State.reset with
      pc := 0x0100#16, a := 0x42#8, f := Flags.fromByte 0x00#8, mem := [(0x0100, 0x9F#8)] }
    let t := stepReference s
    stepAccesses s = [.read 0x0100#16 0x9F#8] ∧
    t.cyc = 4 ∧
    (t.a, t.f.toByte, t.bc, t.de, t.hl, t.sp, t.pc) =
      (0x00#8, 0xC0#8, 0x0000#16, 0x0000#16, 0x0000#16, 0x0000#16, 0x0101#16) := by decide

/-- 95_test_vectors.md V44-18, `SBC A,(HL)`. -/
theorem test_V44_18 :
    let s : State := { State.reset with
      pc := 0x0100#16, a := 0x3B#8, f := Flags.fromByte 0x10#8, hl := 0xC000#16, mem := [(0x0100, 0x9E#8), (0xC000, 0x4F#8)] }
    let t := stepReference s
    stepAccesses s = [.read 0x0100#16 0x9E#8, .read 0xC000#16 0x4F#8] ∧
    t.cyc = 8 ∧
    (t.a, t.f.toByte, t.bc, t.de, t.hl, t.sp, t.pc) =
      (0xEB#8, 0x70#8, 0x0000#16, 0x0000#16, 0xC000#16, 0x0000#16, 0x0101#16) := by decide

/-- 95_test_vectors.md V44-19, `SBC A,d8`. -/
theorem test_V44_19 :
    let s : State := { State.reset with
      pc := 0x0100#16, a := 0x3B#8, f := Flags.fromByte 0x10#8, mem := [(0x0100, 0xDE#8), (0x0101, 0x3A#8)] }
    let t := stepReference s
    stepAccesses s = [.read 0x0100#16 0xDE#8, .read 0x0101#16 0x3A#8] ∧
    t.cyc = 8 ∧
    (t.a, t.f.toByte, t.bc, t.de, t.hl, t.sp, t.pc) =
      (0x00#8, 0xC0#8, 0x0000#16, 0x0000#16, 0x0000#16, 0x0000#16, 0x0102#16) := by decide

/-- 95_test_vectors.md V44-20, `SBC A,d8, 0 - 0xFF - 1`. -/
theorem test_V44_20 :
    let s : State := { State.reset with
      pc := 0x0100#16, a := 0x00#8, f := Flags.fromByte 0x10#8, mem := [(0x0100, 0xDE#8), (0x0101, 0xFF#8)] }
    let t := stepReference s
    stepAccesses s = [.read 0x0100#16 0xDE#8, .read 0x0101#16 0xFF#8] ∧
    t.cyc = 8 ∧
    (t.a, t.f.toByte, t.bc, t.de, t.hl, t.sp, t.pc) =
      (0x00#8, 0xF0#8, 0x0000#16, 0x0000#16, 0x0000#16, 0x0000#16, 0x0102#16) := by decide

/-- 95_test_vectors.md V44-21, `AND A,L`. -/
theorem test_V44_21 :
    let s : State := { State.reset with
      pc := 0x0100#16, a := 0x5A#8, f := Flags.fromByte 0x50#8, hl := 0x003F#16, mem := [(0x0100, 0xA5#8)] }
    let t := stepReference s
    stepAccesses s = [.read 0x0100#16 0xA5#8] ∧
    t.cyc = 4 ∧
    (t.a, t.f.toByte, t.bc, t.de, t.hl, t.sp, t.pc) =
      (0x1A#8, 0x20#8, 0x0000#16, 0x0000#16, 0x003F#16, 0x0000#16, 0x0101#16) := by decide

/-- 95_test_vectors.md V44-22, `AND A,A with A = 0`. -/
theorem test_V44_22 :
    let s : State := { State.reset with
      pc := 0x0100#16, a := 0x00#8, mem := [(0x0100, 0xA7#8)] }
    let t := stepReference s
    stepAccesses s = [.read 0x0100#16 0xA7#8] ∧
    t.cyc = 4 ∧
    (t.a, t.f.toByte, t.bc, t.de, t.hl, t.sp, t.pc) =
      (0x00#8, 0xA0#8, 0x0000#16, 0x0000#16, 0x0000#16, 0x0000#16, 0x0101#16) := by decide

/-- 95_test_vectors.md V44-23, `AND A,(HL)`. -/
theorem test_V44_23 :
    let s : State := { State.reset with
      pc := 0x0100#16, a := 0x5A#8, hl := 0xC000#16, mem := [(0x0100, 0xA6#8)] }
    let t := stepReference s
    stepAccesses s = [.read 0x0100#16 0xA6#8, .read 0xC000#16 0x00#8] ∧
    t.cyc = 8 ∧
    (t.a, t.f.toByte, t.bc, t.de, t.hl, t.sp, t.pc) =
      (0x00#8, 0xA0#8, 0x0000#16, 0x0000#16, 0xC000#16, 0x0000#16, 0x0101#16) := by decide

/-- 95_test_vectors.md V44-24, `AND A,d8`. -/
theorem test_V44_24 :
    let s : State := { State.reset with
      pc := 0x0100#16, a := 0x5A#8, mem := [(0x0100, 0xE6#8), (0x0101, 0x38#8)] }
    let t := stepReference s
    stepAccesses s = [.read 0x0100#16 0xE6#8, .read 0x0101#16 0x38#8] ∧
    t.cyc = 8 ∧
    (t.a, t.f.toByte, t.bc, t.de, t.hl, t.sp, t.pc) =
      (0x18#8, 0x20#8, 0x0000#16, 0x0000#16, 0x0000#16, 0x0000#16, 0x0102#16) := by decide

/-- 95_test_vectors.md V44-25, `XOR A,A`. -/
theorem test_V44_25 :
    let s : State := { State.reset with
      pc := 0x0100#16, a := 0x99#8, f := Flags.fromByte 0xF0#8, mem := [(0x0100, 0xAF#8)] }
    let t := stepReference s
    stepAccesses s = [.read 0x0100#16 0xAF#8] ∧
    t.cyc = 4 ∧
    (t.a, t.f.toByte, t.bc, t.de, t.hl, t.sp, t.pc) =
      (0x00#8, 0x80#8, 0x0000#16, 0x0000#16, 0x0000#16, 0x0000#16, 0x0101#16) := by decide

/-- 95_test_vectors.md V44-26, `XOR A,B`. -/
theorem test_V44_26 :
    let s : State := { State.reset with
      pc := 0x0100#16, a := 0xFF#8, bc := 0x0F00#16, mem := [(0x0100, 0xA8#8)] }
    let t := stepReference s
    stepAccesses s = [.read 0x0100#16 0xA8#8] ∧
    t.cyc = 4 ∧
    (t.a, t.f.toByte, t.bc, t.de, t.hl, t.sp, t.pc) =
      (0xF0#8, 0x00#8, 0x0F00#16, 0x0000#16, 0x0000#16, 0x0000#16, 0x0101#16) := by decide

/-- 95_test_vectors.md V44-27, `XOR A,(HL)`. -/
theorem test_V44_27 :
    let s : State := { State.reset with
      pc := 0x0100#16, a := 0xFF#8, hl := 0xC000#16, mem := [(0x0100, 0xAE#8), (0xC000, 0x8A#8)] }
    let t := stepReference s
    stepAccesses s = [.read 0x0100#16 0xAE#8, .read 0xC000#16 0x8A#8] ∧
    t.cyc = 8 ∧
    (t.a, t.f.toByte, t.bc, t.de, t.hl, t.sp, t.pc) =
      (0x75#8, 0x00#8, 0x0000#16, 0x0000#16, 0xC000#16, 0x0000#16, 0x0101#16) := by decide

/-- 95_test_vectors.md V44-28, `XOR A,d8`. -/
theorem test_V44_28 :
    let s : State := { State.reset with
      pc := 0x0100#16, a := 0xFF#8, mem := [(0x0100, 0xEE#8), (0x0101, 0xFF#8)] }
    let t := stepReference s
    stepAccesses s = [.read 0x0100#16 0xEE#8, .read 0x0101#16 0xFF#8] ∧
    t.cyc = 8 ∧
    (t.a, t.f.toByte, t.bc, t.de, t.hl, t.sp, t.pc) =
      (0x00#8, 0x80#8, 0x0000#16, 0x0000#16, 0x0000#16, 0x0000#16, 0x0102#16) := by decide

/-- 95_test_vectors.md V44-29, `OR A,C`. -/
theorem test_V44_29 :
    let s : State := { State.reset with
      pc := 0x0100#16, a := 0x5A#8, f := Flags.fromByte 0xF0#8, bc := 0x0003#16, mem := [(0x0100, 0xB1#8)] }
    let t := stepReference s
    stepAccesses s = [.read 0x0100#16 0xB1#8] ∧
    t.cyc = 4 ∧
    (t.a, t.f.toByte, t.bc, t.de, t.hl, t.sp, t.pc) =
      (0x5B#8, 0x00#8, 0x0003#16, 0x0000#16, 0x0000#16, 0x0000#16, 0x0101#16) := by decide

/-- 95_test_vectors.md V44-30, `OR A,A with A = 0`. -/
theorem test_V44_30 :
    let s : State := { State.reset with
      pc := 0x0100#16, a := 0x00#8, mem := [(0x0100, 0xB7#8)] }
    let t := stepReference s
    stepAccesses s = [.read 0x0100#16 0xB7#8] ∧
    t.cyc = 4 ∧
    (t.a, t.f.toByte, t.bc, t.de, t.hl, t.sp, t.pc) =
      (0x00#8, 0x80#8, 0x0000#16, 0x0000#16, 0x0000#16, 0x0000#16, 0x0101#16) := by decide

/-- 95_test_vectors.md V44-31, `OR A,(HL)`. -/
theorem test_V44_31 :
    let s : State := { State.reset with
      pc := 0x0100#16, a := 0x5A#8, hl := 0xC000#16, mem := [(0x0100, 0xB6#8), (0xC000, 0x0F#8)] }
    let t := stepReference s
    stepAccesses s = [.read 0x0100#16 0xB6#8, .read 0xC000#16 0x0F#8] ∧
    t.cyc = 8 ∧
    (t.a, t.f.toByte, t.bc, t.de, t.hl, t.sp, t.pc) =
      (0x5F#8, 0x00#8, 0x0000#16, 0x0000#16, 0xC000#16, 0x0000#16, 0x0101#16) := by decide

/-- 95_test_vectors.md V44-32, `OR A,d8`. -/
theorem test_V44_32 :
    let s : State := { State.reset with
      pc := 0x0100#16, a := 0x01#8, mem := [(0x0100, 0xF6#8), (0x0101, 0x80#8)] }
    let t := stepReference s
    stepAccesses s = [.read 0x0100#16 0xF6#8, .read 0x0101#16 0x80#8] ∧
    t.cyc = 8 ∧
    (t.a, t.f.toByte, t.bc, t.de, t.hl, t.sp, t.pc) =
      (0x81#8, 0x00#8, 0x0000#16, 0x0000#16, 0x0000#16, 0x0000#16, 0x0102#16) := by decide

/-- 95_test_vectors.md V44-33, `CP A,B`. -/
theorem test_V44_33 :
    let s : State := { State.reset with
      pc := 0x0100#16, a := 0x3C#8, bc := 0x2F00#16, mem := [(0x0100, 0xB8#8)] }
    let t := stepReference s
    stepAccesses s = [.read 0x0100#16 0xB8#8] ∧
    t.cyc = 4 ∧
    (t.a, t.f.toByte, t.bc, t.de, t.hl, t.sp, t.pc) =
      (0x3C#8, 0x60#8, 0x2F00#16, 0x0000#16, 0x0000#16, 0x0000#16, 0x0101#16) := by decide

/-- 95_test_vectors.md V44-34, `CP A,A`. -/
theorem test_V44_34 :
    let s : State := { State.reset with
      pc := 0x0100#16, a := 0x3C#8, mem := [(0x0100, 0xBF#8)] }
    let t := stepReference s
    stepAccesses s = [.read 0x0100#16 0xBF#8] ∧
    t.cyc = 4 ∧
    (t.a, t.f.toByte, t.bc, t.de, t.hl, t.sp, t.pc) =
      (0x3C#8, 0xC0#8, 0x0000#16, 0x0000#16, 0x0000#16, 0x0000#16, 0x0101#16) := by decide

/-- 95_test_vectors.md V44-35, `CP A,(HL)`. -/
theorem test_V44_35 :
    let s : State := { State.reset with
      pc := 0x0100#16, a := 0x3C#8, hl := 0xC000#16, mem := [(0x0100, 0xBE#8), (0xC000, 0x40#8)] }
    let t := stepReference s
    stepAccesses s = [.read 0x0100#16 0xBE#8, .read 0xC000#16 0x40#8] ∧
    t.cyc = 8 ∧
    (t.a, t.f.toByte, t.bc, t.de, t.hl, t.sp, t.pc) =
      (0x3C#8, 0x50#8, 0x0000#16, 0x0000#16, 0xC000#16, 0x0000#16, 0x0101#16) := by decide

/-- 95_test_vectors.md V44-36, `CP A,d8`. -/
theorem test_V44_36 :
    let s : State := { State.reset with
      pc := 0x0100#16, a := 0x3C#8, mem := [(0x0100, 0xFE#8), (0x0101, 0x3C#8)] }
    let t := stepReference s
    stepAccesses s = [.read 0x0100#16 0xFE#8, .read 0x0101#16 0x3C#8] ∧
    t.cyc = 8 ∧
    (t.a, t.f.toByte, t.bc, t.de, t.hl, t.sp, t.pc) =
      (0x3C#8, 0xC0#8, 0x0000#16, 0x0000#16, 0x0000#16, 0x0000#16, 0x0102#16) := by decide

/-- 95_test_vectors.md V44-37, `DAA after add`. -/
theorem test_V44_37 :
    let s : State := { State.reset with
      pc := 0x0100#16, a := 0x7D#8, f := Flags.fromByte 0x00#8, mem := [(0x0100, 0x27#8)] }
    let t := stepReference s
    stepAccesses s = [.read 0x0100#16 0x27#8] ∧
    t.cyc = 4 ∧
    (t.a, t.f.toByte, t.bc, t.de, t.hl, t.sp, t.pc) =
      (0x83#8, 0x00#8, 0x0000#16, 0x0000#16, 0x0000#16, 0x0000#16, 0x0101#16) := by decide

/-- 95_test_vectors.md V44-38, `DAA after subtract`. -/
theorem test_V44_38 :
    let s : State := { State.reset with
      pc := 0x0100#16, a := 0x4B#8, f := Flags.fromByte 0x60#8, mem := [(0x0100, 0x27#8)] }
    let t := stepReference s
    stepAccesses s = [.read 0x0100#16 0x27#8] ∧
    t.cyc = 4 ∧
    (t.a, t.f.toByte, t.bc, t.de, t.hl, t.sp, t.pc) =
      (0x45#8, 0x40#8, 0x0000#16, 0x0000#16, 0x0000#16, 0x0000#16, 0x0101#16) := by decide

/-- 95_test_vectors.md V44-39, `DAA of zero`. -/
theorem test_V44_39 :
    let s : State := { State.reset with
      pc := 0x0100#16, a := 0x00#8, f := Flags.fromByte 0x00#8, mem := [(0x0100, 0x27#8)] }
    let t := stepReference s
    stepAccesses s = [.read 0x0100#16 0x27#8] ∧
    t.cyc = 4 ∧
    (t.a, t.f.toByte, t.bc, t.de, t.hl, t.sp, t.pc) =
      (0x00#8, 0x80#8, 0x0000#16, 0x0000#16, 0x0000#16, 0x0000#16, 0x0101#16) := by decide

/-- 95_test_vectors.md V44-40, `DAA 0x9A`. -/
theorem test_V44_40 :
    let s : State := { State.reset with
      pc := 0x0100#16, a := 0x9A#8, f := Flags.fromByte 0x00#8, mem := [(0x0100, 0x27#8)] }
    let t := stepReference s
    stepAccesses s = [.read 0x0100#16 0x27#8] ∧
    t.cyc = 4 ∧
    (t.a, t.f.toByte, t.bc, t.de, t.hl, t.sp, t.pc) =
      (0x00#8, 0x90#8, 0x0000#16, 0x0000#16, 0x0000#16, 0x0000#16, 0x0101#16) := by decide

/-- 95_test_vectors.md V44-41, `DAA after 0x00 - 0x01`. -/
theorem test_V44_41 :
    let s : State := { State.reset with
      pc := 0x0100#16, a := 0xFF#8, f := Flags.fromByte 0x70#8, mem := [(0x0100, 0x27#8)] }
    let t := stepReference s
    stepAccesses s = [.read 0x0100#16 0x27#8] ∧
    t.cyc = 4 ∧
    (t.a, t.f.toByte, t.bc, t.de, t.hl, t.sp, t.pc) =
      (0x99#8, 0x50#8, 0x0000#16, 0x0000#16, 0x0000#16, 0x0000#16, 0x0101#16) := by decide

/-- 95_test_vectors.md V44-42, `DAA ignores Z in`. -/
theorem test_V44_42 :
    let s : State := { State.reset with
      pc := 0x0100#16, a := 0x01#8, f := Flags.fromByte 0x80#8, mem := [(0x0100, 0x27#8)] }
    let t := stepReference s
    stepAccesses s = [.read 0x0100#16 0x27#8] ∧
    t.cyc = 4 ∧
    (t.a, t.f.toByte, t.bc, t.de, t.hl, t.sp, t.pc) =
      (0x01#8, 0x00#8, 0x0000#16, 0x0000#16, 0x0000#16, 0x0000#16, 0x0101#16) := by decide

/-! ### Witnesses: for each statement with hypotheses, a state and operands that meet them -/

/-- A running core at 0xFFFF with a byte there and a memory in canonical form. -/
def at_FFFF (op : Byte) : State := { State.reset with pc := 0xFFFF#16, mem := [(0xFFFF, op)] }

/-- R40, R42: every write keeps the canonical form. -/
theorem test_write_keeps_wf : Memory.wf ((at_FFFF 0x77#8).writeByte 0x0000#16 0x01#8).mem := by decide
theorem witness_EqualReadsGiveEqualMemories :
    Memory.wf [(0, 0x05#8), (65535, 0x01#8)] ∧ (∀ a, a < 65536 → Memory.read [] a = Memory.read [] a) :=
  ⟨by decide, fun _ _ => rfl⟩
theorem witness_DecimalAdjustMeetsDecimalGroundTruth : 0 < 100 ∧ 99 < 100 := by decide
theorem witness_UnmappedBytesAreExactlyThose : 0x00#8 ∈ bytesOfR70 ∧ 0xFF#8 ∈ bytesOfR70 := by decide
theorem witness_LengthIsFixedByTheOpcode :
    (Instr.daa).WellFormed ∧ (Instr.ldA_d8 0xFF#8).WellFormed ∧ (Instr.ldAtA16_A 0xFFFF#16).WellFormed ∧
      (Instr.unmapped 0xCB#8).WellFormed := by decide
theorem witness_DecodeInvertsEncode : (Instr.ldSP_d16 0xFFFE#16).WellFormed ∧ (Instr.unmapped 0x00#8).WellFormed := by decide
theorem witness_EncodeInvertsDecode :
    decode [0x31#8, 0xFE#8, 0xFF#8, 0x00#8] = .ok (.ldSP_d16 0xFFFE#16, [0x00#8]) := by decide
theorem witness_RegisterCopyMovesOneRegister :
    Instr.ldB_C.form = .copy .b .c ∧ Instr.ldA_A.form = .copy .a .a := by decide
theorem witness_LoadImmediateSetsOneRegister : (Instr.ldA_d8 0xFF#8).form = .loadImm .a 0xFF#8 := by decide
theorem witness_LoadThroughHLReadsTheOldAddress : Instr.ldH_atHL.form = .loadHL .h := by decide
theorem witness_AccumulatorLoadsReadTheirAddress :
    Instr.ldA_atBC.form = .load .bc ∧ Instr.ldA_atDE.form = .load .de ∧
    (Instr.ldA_atA16 0xFFFF#16).form = .load (.abs 0xFFFF#16) ∧ (Instr.ldhA_atA8 0x00#8).form = .load (.high 0x00#8) ∧
    Instr.ldA_atC.form = .load .highC := by decide
theorem witness_StoreThroughHLWritesOneByte : Instr.ldAtHL_L.form = .storeHL .l := by decide
theorem witness_AccumulatorStoresWriteTheirAddress :
    Instr.ldAtBC_A.form = .store .bc ∧ Instr.ldAtDE_A.form = .store .de ∧
    (Instr.ldAtA16_A 0xFFFF#16).form = .store (.abs 0xFFFF#16) ∧ (Instr.ldhAtA8_A 0xFF#8).form = .store (.high 0xFF#8) ∧
    Instr.ldAtC_A.form = .store .highC := by decide
theorem witness_PostModifyStoresMoveHL :
    Instr.ldAtHLinc_A.form = .storePost .inc ∧ Instr.ldAtHLdec_A.form = .storePost .dec := by decide
theorem witness_PostModifyLoadsMoveHL :
    Instr.ldA_atHLinc.form = .loadPost .inc ∧ Instr.ldA_atHLdec.form = .loadPost .dec := by decide
theorem witness_LoadImmediate16SetsTheDestination :
    (Instr.ldSP_d16 0xFFFF#16).form = .load16 .sp 0xFFFF#16 ∧ (Instr.ldBC_d16 0x0000#16).form = .load16 .bc 0x0000#16 ∧
    Reg16.hl ≠ Reg16.sp := by decide
theorem witness_PushPairStoresHighThenLow : Instr.pushHL.form = .push .hl := by decide
theorem witness_PushAFStoresAccumulatorThenFlags : Instr.pushAF.form = .pushAF := by decide
theorem witness_PopPairLoadsLowThenHigh : Instr.popBC.form = .pop .bc := by decide
theorem witness_PopAFLoadsFlagsThenAccumulator : Instr.popAF.form = .popAF := by decide
theorem witness_PushThenPopCopiesAndRestoresSP :
    Instr.pushBC.form = .push .bc ∧ Instr.popDE.form = .pop .de ∧ Instr.pushAF.form = .pushAF ∧ Instr.popAF.form = .popAF ∧
    (∃ t u, exec .pushBC State.reset = .next t ∧ exec .popDE t = .next u) ∧
    (∃ t u, exec .pushAF State.reset = .next t ∧ exec .popAF t = .next u) :=
  ⟨rfl, rfl, rfl, rfl, ⟨_, _, rfl, rfl⟩, ⟨_, _, rfl, rfl⟩⟩
theorem witness_AddSetsAccumulatorAndFlags :
    Instr.addA_A.form = .alu .add (.reg .a) ∧ Instr.addA_atHL.form = .alu .add .atHL ∧
    (Instr.addA_d8 0xFF#8).form = .alu .add (.imm 0xFF#8) := by decide
theorem witness_AdcSetsAccumulatorAndFlags :
    Instr.adcA_A.form = .alu .adc (.reg .a) ∧ Instr.adcA_atHL.form = .alu .adc .atHL ∧
    (Instr.adcA_d8 0xFF#8).form = .alu .adc (.imm 0xFF#8) := by decide
theorem witness_SubSetsAccumulatorAndFlags :
    Instr.subA_A.form = .alu .sub (.reg .a) ∧ Instr.subA_atHL.form = .alu .sub .atHL ∧
    (Instr.subA_d8 0xFF#8).form = .alu .sub (.imm 0xFF#8) := by decide
theorem witness_SbcSetsAccumulatorAndFlags :
    Instr.sbcA_A.form = .alu .sbc (.reg .a) ∧ Instr.sbcA_atHL.form = .alu .sbc .atHL ∧
    (Instr.sbcA_d8 0xFF#8).form = .alu .sbc (.imm 0xFF#8) := by decide
theorem witness_AndSetsAccumulatorAndFlags :
    Instr.andA_A.form = .alu .and (.reg .a) ∧ Instr.andA_atHL.form = .alu .and .atHL ∧
    (Instr.andA_d8 0xFF#8).form = .alu .and (.imm 0xFF#8) := by decide
theorem witness_XorSetsAccumulatorAndFlags :
    Instr.xorA_A.form = .alu .xor (.reg .a) ∧ Instr.xorA_atHL.form = .alu .xor .atHL ∧
    (Instr.xorA_d8 0xFF#8).form = .alu .xor (.imm 0xFF#8) := by decide
theorem witness_OrSetsAccumulatorAndFlags :
    Instr.orA_A.form = .alu .or (.reg .a) ∧ Instr.orA_atHL.form = .alu .or .atHL ∧
    (Instr.orA_d8 0xFF#8).form = .alu .or (.imm 0xFF#8) := by decide
theorem witness_CompareSetsFlagsOnly :
    Instr.cpA_A.form = .alu .cp (.reg .a) ∧ Instr.cpA_atHL.form = .alu .cp .atHL ∧
    (Instr.cpA_d8 0xFF#8).form = .alu .cp (.imm 0xFF#8) := by decide
theorem witness_DaaCorrectsTheAccumulator :
    Instr.daa.form = .daa ∧ (Flags.fromByte 0x00#8).n = false ∧ (Flags.fromByte 0x70#8).n = true := by decide

/-- A state whose `A` is 99 in decimal and whose carry is set, for the four operations with the operand 1. -/
def bcd_99 : State := { State.reset with a := bcd 99, f := Flags.fromByte 0x10#8 }

theorem witness_DaaMakesBinaryArithmeticDecimal :
    bcd_99.a = bcd 99 ∧ specOperand bcd_99 (.imm (bcd 1)) = bcd 1 ∧
    (Instr.addA_d8 (bcd 1)).form = .alu .add (.imm (bcd 1)) ∧ (Instr.adcA_d8 (bcd 1)).form = .alu .adc (.imm (bcd 1)) ∧
    (Instr.subA_d8 (bcd 1)).form = .alu .sub (.imm (bcd 1)) ∧ (Instr.sbcA_d8 (bcd 1)).form = .alu .sbc (.imm (bcd 1)) ∧
    (∃ t u, exec (.addA_d8 (bcd 1)) bcd_99 = .next t ∧ exec .daa t = .next u) ∧
    (∃ t u, exec (.adcA_d8 (bcd 1)) bcd_99 = .next t ∧ exec .daa t = .next u) ∧
    (∃ t u, exec (.subA_d8 (bcd 1)) bcd_99 = .next t ∧ exec .daa t = .next u) ∧
    (∃ t u, exec (.sbcA_d8 (bcd 1)) bcd_99 = .next t ∧ exec .daa t = .next u) :=
  ⟨rfl, rfl, rfl, rfl, rfl, rfl, ⟨_, _, rfl, rfl⟩, ⟨_, _, rfl, rfl⟩, ⟨_, _, rfl, rfl⟩, ⟨_, _, rfl, rfl⟩⟩
theorem witness_UnmappedTakesTheFatalStop : (Instr.unmapped 0x76#8).form = .unmapped 0x76#8 := by decide
theorem witness_UnmappedOpcodeStepIsPrecise :
    (at_FFFF 0xCB#8).status = .run ∧ table ((at_FFFF 0xCB#8).readByte (at_FFFF 0xCB#8).pc) = none := ⟨rfl, rfl⟩
theorem witness_OnlyUnmappedOpcodesStopTheCore :
    ((at_FFFF 0xCB#8).status = .run ∧ ∃ t, step (at_FFFF 0xCB#8) = .next t) ∧
    ((at_FFFF 0x27#8).status = .run ∧ ∃ t, step (at_FFFF 0x27#8) = .next t) := ⟨⟨rfl, _, rfl⟩, ⟨rfl, _, rfl⟩⟩

/-- A core in `FAULT`. -/
def stopped : State :=
  { State.reset with pc := 0x0001#16, status := .fault, faultInfo := some { opcode := 0x00#8, pc := 0x0001#16 } }

theorem witness_FaultedCoreStepsWithoutEffect : stopped.status = .fault := rfl
theorem witness_FaultIsKeptUntilReset : stopped.status = .fault := rfl
theorem witness_StepRunsTheDecodedInstruction :
    (at_FFFF 0x3E#8).status = .run ∧
    decode [(at_FFFF 0x3E#8).readByte 0xFFFF#16, (at_FFFF 0x3E#8).readByte (0xFFFF#16 + 1#16),
      (at_FFFF 0x3E#8).readByte (0xFFFF#16 + 2#16)] = .ok (.ldA_d8 0x00#8, [0x00#8]) ∧
    (Instr.ldA_d8 0x00#8).WellFormed := by decide
theorem witness_MappedStepAdvancesPCByItsLength :
    (at_FFFF 0x31#8).status = .run ∧ table ((at_FFFF 0x31#8).readByte (at_FFFF 0x31#8).pc) ≠ none :=
  ⟨rfl, fun h => by cases h⟩
theorem witness_StepAddsTheOpcodesCost :
    ((at_FFFF 0x3E#8).status = .run ∧ (table ((at_FFFF 0x3E#8).readByte (at_FFFF 0x3E#8).pc)).isSome = true) ∧
    ((at_FFFF 0x00#8).status = .run ∧ (table ((at_FFFF 0x00#8).readByte (at_FFFF 0x00#8).pc)).isSome = false) :=
  ⟨⟨rfl, rfl⟩, ⟨rfl, rfl⟩⟩
theorem witness_CycleCounterIsReadByNothing :
    ∃ t, Host.Core.run Sys2Proof.core 1 (at_FFFF 0xF5#8) = .next t := ⟨_, rfl⟩

/-- V42-24: `LD (HL),A` at 0x0100 aimed at the next opcode byte. -/
def selfModifying : State :=
  { State.reset with a := 0x3E#8, hl := 0x0101#16, pc := 0x0100#16, mem := [(0x0100, 0x77#8)] }

theorem witness_StoreIsSeenByTheNextFetch :
    (selfModifying.status = .run ∧ selfModifying.readByte selfModifying.pc = 0x77#8 ∧
      selfModifying.hl = selfModifying.pc + 1#16 ∧
      ∃ t, step selfModifying = .next t ∧ .write 0x0101#16 0x3E#8 ∈ stepAccesses selfModifying ∧ t.pc = 0x0101#16) :=
  ⟨rfl, by decide, by decide, _, rfl, by decide, by decide⟩

/-- A core about to run the storing form that stands at 0x0100, with each address register at the byte after it, 0x0101,
and `SP` one further, so that a push writes there too. -/
def storeOntoNext (bytes : List Host.Cell) : State :=
  { selfModifying with bc := 0x0101#16, de := 0x0101#16, sp := 0x0102#16, mem := bytes }

/-- R55 speaks of every store: `LD (HL),r`, `LD (BC),A`, `LD (DE),A`, `LD (HL+),A`, `LD (HL-),A`, `PUSH rr` and `PUSH AF`
write the byte that is fetched next. -/
theorem witness_StoreIsSeenByTheNextFetch_forms :
    ∀ op ∈ ([0x70, 0x02, 0x12, 0x22, 0x32, 0xC5, 0xF5] : List Byte),
      ∃ a v, a = 0x0101#16 ∧ .write a v ∈ stepAccesses (storeOntoNext [(0x0100, op)]) := by
  intro op h
  simp only [List.mem_cons, List.not_mem_nil, or_false] at h
  rcases h with rfl | rfl | rfl | rfl | rfl | rfl | rfl <;> exact ⟨_, _, rfl, .tail _ (.head _)⟩

/-- The stores with an address in the instruction or in the high page: `LD (a16),A`, `LDH (a8),A` and `LD (C),A` write the
opcode byte, or an immediate, of the instruction fetched next. -/
theorem witness_StoreIsSeenByTheNextFetch_addressed :
    .write 0x0103#16 0x3E#8 ∈ stepAccesses (storeOntoNext [(0x0100, 0xEA#8), (0x0101, 0x03#8), (0x0102, 0x01#8)]) ∧
    .write 0xFF12#16 0x3E#8 ∈
      stepAccesses { storeOntoNext [(0xFF10, 0xE0#8), (0xFF11, 0x12#8)] with pc := 0xFF10#16 } ∧
    .write 0xFF01#16 0x3E#8 ∈ stepAccesses { storeOntoNext [(0xFF00, 0xE2#8)] with pc := 0xFF00#16 } := by decide

/-- V42-24: the byte stored is the opcode the second step fetches. -/
theorem test_V42_24 :
    (stepReference selfModifying).pc = 0x0101#16 ∧ (stepReference selfModifying).cyc = 8 ∧
    (stepReference selfModifying).fetchInstr.1 = .ldA_d8 0x00#8 := by decide

theorem witness_PortWritesExplainMemory : ∃ t, step (at_FFFF 0xC5#8) = .next t := ⟨_, rfl⟩
theorem witness_AccessesFollowTheirOrder :
    (at_FFFF 0xC5#8).status = .run ∧ Instr.ldH_atHL.form = .loadHL .h ∧ Instr.ldA_atC.form = .load .highC ∧
    Instr.ldA_atHLinc.form = .loadPost .inc ∧ Instr.cpA_atHL.form = .alu .cp .atHL ∧ Instr.popHL.form = .pop .hl ∧
    Instr.popAF.form = .popAF ∧ Instr.ldAtHL_L.form = .storeHL .l ∧ Instr.ldAtBC_A.form = .store .bc ∧
    Instr.ldAtHLdec_A.form = .storePost .dec ∧ Instr.pushDE.form = .push .de ∧ Instr.pushAF.form = .pushAF ∧
    Instr.ldB_C.form = .copy .b .c ∧ (Instr.ldB_d8 0x00#8).form = .loadImm .b 0x00#8 ∧
    (Instr.ldSP_d16 0xFFFF#16).form = .load16 .sp 0xFFFF#16 ∧ Instr.addA_B.form = .alu .add (.reg .b) ∧
    (Instr.cpA_d8 0x01#8).form = .alu .cp (.imm 0x01#8) ∧ Instr.daa.form = .daa ∧
    (Instr.unmapped 0x00#8).form = .unmapped 0x00#8 := by decide

/-- R154, R48: `POP HL` with `SP = 0xFFFF` reads 0xFFFF and then 0x0000; memory differs at 0x8000 and the reads are the
same. -/
theorem witness_PortReadsExplainTheResult :
    ∃ t, step { State.reset with sp := 0xFFFF#16, mem := [(0, 0xE1#8)] } = .next t ∧
      stepAccesses { State.reset with sp := 0xFFFF#16, mem := [(0, 0xE1#8)] } =
        [.read 0x0000#16 0xE1#8, .read 0xFFFF#16 0x00#8, .read 0x0000#16 0xE1#8] ∧
      ∀ a v, .read a v ∈ stepAccesses { State.reset with sp := 0xFFFF#16, mem := [(0, 0xE1#8)] } →
        Memory.read [(0, 0xE1#8), (0x8000, 0x55#8)] a.toNat = v := by
  refine ⟨_, rfl, by decide, fun a v h => ?_⟩
  have e : stepAccesses { State.reset with sp := 0xFFFF#16, mem := [(0, 0xE1#8)] } =
      [.read 0x0000#16 0xE1#8, .read 0xFFFF#16 0x00#8, .read 0x0000#16 0xE1#8] := by decide
  rw [e] at h
  simp only [List.mem_cons, Access.read.injEq, List.not_mem_nil, or_false] at h
  rcases h with ⟨rfl, rfl⟩ | ⟨rfl, rfl⟩ | ⟨rfl, rfl⟩ <;> decide
theorem witness_ElementsChangeOnlyByTheirWriters :
    (∃ t, exec .pushBC State.reset = .next t ∧ t.sp ≠ State.reset.sp) ∧
    (∃ t, exec .daa State.reset = .next t ∧ t.f ≠ State.reset.f) ∧
    (∃ t, exec (.ldA_d8 0x01#8) State.reset = .next t ∧ t.a ≠ State.reset.a) ∧
    (∃ t, exec (.ldB_d8 0x01#8) State.reset = .next t ∧ t.bc ≠ State.reset.bc) ∧
    (∃ t, exec (.ldE_d8 0x01#8) State.reset = .next t ∧ t.de ≠ State.reset.de) ∧
    (∃ t, exec .ldA_atHLdec State.reset = .next t ∧ t.hl ≠ State.reset.hl) ∧
    (∃ t, exec .ldAtHL_A { State.reset with a := 0x01#8 } = .next t ∧ t.mem ≠ State.reset.mem) ∧
    (∃ t, exec (.unmapped 0x00#8) State.reset = .next t ∧ t.status ≠ State.reset.status) := by
  refine ⟨⟨_, rfl, ?_⟩, ⟨_, rfl, ?_⟩, ⟨_, rfl, ?_⟩, ⟨_, rfl, ?_⟩, ⟨_, rfl, ?_⟩, ⟨_, rfl, ?_⟩, ⟨_, rfl, ?_⟩, ⟨_, rfl, ?_⟩⟩ <;>
    decide
theorem witness_ZeroFlagIsReadByPushAFAlone :
    Instr.daa.form ≠ .pushAF ∧ ∃ t, exec .daa State.reset = .next t := ⟨by decide, _, rfl⟩
theorem witness_StepKeepsTheInvariant :
    (Inv State.reset ∧ ∃ t, step State.reset = .next t) ∧ (Inv stopped ∧ ∃ t, step stopped = .next t) := by
  refine ⟨⟨⟨Memory.wf_nil, Nat.succ_pos _, by decide, fun fi h => ?_⟩, _, rfl⟩,
    ⟨⟨Memory.wf_nil, Nat.succ_pos _, by decide, fun fi h => ?_⟩, _, rfl⟩⟩
  · cases h
  · cases h
    exact ⟨rfl, rfl, rfl⟩

/-- A run of no steps from reset ends safely, and the one step that fetches an unlisted byte does not. -/
theorem test_SafeRun : SafeRun 0 State.reset ∧ ¬ SafeRun 1 State.reset := by
  refine ⟨⟨_, rfl, rfl⟩, ?_⟩
  rintro ⟨t, h, hs⟩
  have e : Host.Core.run Sys2Proof.core 1 State.reset = .next { State.reset with
      pc := 0x0001#16, status := .fault, faultInfo := some { opcode := 0x00#8, pc := 0x0001#16 } } := rfl
  rw [e] at h
  cases h
  cases hs

end Sys2Proof.Tests
end

section
/-! SUPPORT. The value primitives in arithmetic (R6 to R8), and the statement about them. -/

namespace Sys2Proof

@[simp] theorem toNat_loByte (w : Word) : (loByte w).toNat = w.toNat % 256 := by
  simp [loByte]

@[simp] theorem toNat_hiByte (w : Word) : (hiByte w).toNat = w.toNat / 256 := by
  have hw : w.toNat / 256 < 256 := by omega
  simp [hiByte, Nat.shiftRight_eq_div_pow, Nat.mod_eq_of_lt hw]

/-- The two halves of the address are the arguments, so its quotient and remainder by 256 are known. -/
@[simp] theorem toNat_makeAddress (high low : Byte) :
    (makeAddress high low).toNat = 256 * high.toNat + low.toNat := by
  have hlo : (makeAddress high low).toNat % 256 = low.toNat := by
    rw [← toNat_loByte, loByte_makeAddress]
  have hhi : (makeAddress high low).toNat / 256 = high.toNat := by
    rw [← toNat_hiByte, hiByte_makeAddress]
  omega

@[simp] theorem toNat_wordLe (first second : Byte) :
    (wordLe first second).toNat = first.toNat + 256 * second.toNat := by
  rw [wordLe_eq_makeAddress, toNat_makeAddress, Nat.add_comm]

/-- R8's printed form of an address in the high page. -/
theorem makeAddress_highPage (n : Byte) : makeAddress 0xFF#8 n = 0xFF00#16 ||| n.setWidth 16 := rfl

/-- Settles O1: the halves and the two compositions by their arithmetic, the bitwise form of R6 because `wordLe` puts
the halves of a Word together again. -/
theorem wordSplitsAndComposes : Obligations.WordSplitsAndComposes :=
  ⟨fun w => ⟨toNat_loByte w, toNat_hiByte w, (wordLe_halves w).symm⟩, toNat_wordLe, toNat_makeAddress,
    makeAddress_highPage, by decide, by decide⟩

end Sys2Proof
end

section
/-! SUPPORT. The cycle counter is read by nothing (R27): every part of a step carries it through, and so does a run. -/

namespace Sys2Proof.Machine

/-- The forms whose effect reads or writes the flag register (R23, the row of `F`). -/
def usesFlags : Form → Bool
  | .alu _ _ | .daa | .pushAF | .popAF => true
  | .copy _ _ | .loadImm _ _ | .loadHL _ | .load _ | .storeHL _ | .store _ | .storePost _ | .loadPost _ | .load16 _ _
  | .push _ | .pop _ | .unmapped _ => false

/-- A form that does not use the flags carries any counter and any flags through, unread and unwritten. -/
theorem formEffect_withCycFlags {φ : Form} (hφ : usesFlags φ = false) (s : State) (c : Nat) (g : Flags) :
    formEffect φ { s with cyc := c, f := g } = { formEffect φ s with cyc := c, f := g } := by
  cases φ with
  | copy dst src => cases dst <;> cases src <;> rfl
  | loadImm dst | loadHL dst | load16 dst => cases dst <;> rfl
  | load m | store m => cases m <;> rfl
  | storeHL src => cases src <;> rfl
  | push p | pop p => cases p <;> rfl
  | storePost | loadPost | unmapped => rfl
  | alu | daa | pushAF | popAF => cases hφ

theorem formEffect_f {φ : Form} (hφ : usesFlags φ = false) (s : State) : (formEffect φ s).f = s.f := by
  have h := congrArg State.f (formEffect_withCycFlags hφ s s.cyc s.f)
  exact h

theorem operand_congr {s t : State} (ha : t.a = s.a) (hbc : t.bc = s.bc) (hde : t.de = s.de) (hhl : t.hl = s.hl)
    (hmem : t.mem = s.mem) (src : Src) : t.operand src = s.operand src := by
  cases src with
  | reg r => exact getR8_congr ha hbc hde hhl r
  | atHL => rw [State.operand, State.operand, hhl, readByte_congr hmem]
  | imm => rfl

/-- R27: no form reads or writes the counter. -/
theorem formEffect_withCyc (φ : Form) (s : State) (c : Nat) :
    formEffect φ { s with cyc := c } = { formEffect φ s with cyc := c } := by
  cases hφ : usesFlags φ with
  | false => simpa only [formEffect_f hφ] using formEffect_withCycFlags hφ s c s.f
  | true =>
    cases φ with
    | alu op src =>
      have h : ({ s with cyc := c } : State).operand src = s.operand src := operand_congr rfl rfl rfl rfl rfl src
      simp only [formEffect, aluAccumulator, h]
    | daa | pushAF | popAF => rfl
    | _ => cases hφ

@[simp] theorem formEffect_cyc (φ : Form) (s : State) : (formEffect φ s).cyc = s.cyc := by
  have h := congrArg State.cyc (formEffect_withCyc φ s s.cyc)
  exact h

/-- R27: a fetch neither reads nor writes the counter. -/
theorem fetchInstr_withCyc (s : State) (c : Nat) :
    ({ s with cyc := c } : State).fetchInstr = (s.fetchInstr.1, { s.fetchInstr.2 with cyc := c }) := by
  have hop : ({ s with cyc := c } : State).readByte s.pc = s.readByte s.pc := rfl
  unfold State.fetchInstr
  simp only [fetch8_value, hop]
  cases table (s.readByte s.pc) with
  | none => rfl
  | some e => cases e <;> rfl

theorem account_withCyc (P : Params) (i : Instr) (s : State) (c : Nat) :
    ∃ c', account P i { s with cyc := c } = { account P i s with cyc := c' } := by
  unfold account
  split <;> exact ⟨_, rfl⟩

/-- R27: a step from a state with another counter answers the same state but for the counter. -/
theorem step_withCyc {s t : State} (h : step s = .next t) (c : Nat) :
    ∃ c', step { s with cyc := c } = .next { t with cyc := c' } := by
  rcases step_cases h with ⟨hs, rfl⟩ | ⟨hs, rfl⟩
  · exact ⟨c, stepWith_fault _ hs⟩
  · obtain ⟨c', hc'⟩ := account_withCyc hardwareParams s.fetchInstr.1
      (formEffect s.fetchInstr.1.form s.fetchInstr.2) c
    refine ⟨c', ?_⟩
    rw [step, stepWith_run _ (by exact hs), fetchInstr_withCyc, formEffect_withCyc, hc']

/-- A run of `k + 1` steps that ends in `t` is a step and a run of `k` steps. -/
theorem run_succ_eq_next {M : Host.Core} {k : Nat} {s t : M.State} :
    M.run (k + 1) s = .next t ↔ ∃ u, M.step s = .next u ∧ M.run k u = .next t := by
  cases h : M.step s <;> simp [Host.Core.run, h]

/-- Settles O50, by induction on the number of steps. -/
theorem cycleCounterIsReadByNothing : Obligations.CycleCounterIsReadByNothing := by
  intro k
  induction k with
  | zero =>
    intro s t c h
    cases h
    exact ⟨c, rfl⟩
  | succ k ih =>
    intro s t c h
    obtain ⟨u, hstep, hrun⟩ := run_succ_eq_next.1 h
    obtain ⟨c₁, hstep'⟩ := step_withCyc hstep c
    obtain ⟨c₂, hrun'⟩ := ih u t c₁ hrun
    exact ⟨c₂, run_succ_eq_next.2 ⟨_, hstep', hrun'⟩⟩

end Sys2Proof.Machine
end

section
/-! SUPPORT. What a step keeps: canonical memory, the counter below the frame budget and a consistent fault latch. -/

namespace Sys2Proof.Machine

open Safety

/-- R70, R204: fetching a byte with no table entry takes that byte alone. -/
theorem fetchInstr_unmapped {s : State} {op : Byte} (h : s.fetchInstr.1.form = .unmapped op) :
    op = s.readByte s.pc ∧ table op = none ∧ s.fetchInstr.2 = { s with pc := s.pc + 1#16 } := by
  have hop := fetchInstr_opcode s
  have hwf := fetchInstr_wellFormed s
  have hstate := fetchInstr_state s
  rw [Instr.length, h] at hstate
  rw [h] at hop
  rw [Instr.WellFormed, h] at hwf
  exact ⟨hop, Option.isNone_iff_eq_none.1 hwf, hstate⟩

@[simp] theorem fetchInstr_mem (s : State) : s.fetchInstr.2.mem = s.mem := by rw [fetchInstr_eq]
@[simp] theorem fetchInstr_cyc (s : State) : s.fetchInstr.2.cyc = s.cyc := by rw [fetchInstr_eq]
@[simp] theorem fetchInstr_status (s : State) : s.fetchInstr.2.status = s.status := by rw [fetchInstr_eq]
@[simp] theorem fetchInstr_faultInfo (s : State) : s.fetchInstr.2.faultInfo = s.faultInfo := by rw [fetchInstr_eq]

/-- R27, R107: the account reduces the counter modulo the frame budget. -/
theorem account_cyc_lt {P : Params} {s : State} (i : Instr) (h : s.cyc < paramFrame P) :
    (account P i s).cyc < paramFrame P := by
  unfold account
  split
  · exact h
  · exact Nat.mod_lt _ (Nat.succ_pos _)

/-- A latch is consistent by the status, the latch, `PC` and memory alone. -/
theorem latchConsistent_congr {s t : State} (hst : t.status = s.status) (hfi : t.faultInfo = s.faultInfo)
    (hpc : t.pc = s.pc) (hmem : t.mem = s.mem) (h : LatchConsistent s) : LatchConsistent t := by
  simpa only [LatchConsistent, hst, hfi, hpc, readByte_congr hmem] using h

theorem latchConsistent_account {P : Params} {i : Instr} {s : State} (h : LatchConsistent s) :
    LatchConsistent (account P i s) :=
  latchConsistent_congr (account_status ..) (account_faultInfo ..) (account_pc ..) (account_mem ..) h

theorem latchConsistent_of_run {s : State} (hst : s.status = .run) (hfi : s.faultInfo = none) : LatchConsistent s := by
  simp [LatchConsistent, hst, hfi]

/-- R202, R203: the fatal stop latches the byte just before `PC`. -/
theorem latchConsistent_raiseUnmappedOpcode {s : State} {op : Byte} (htable : table op = none)
    (hread : s.readByte (s.pc - 1#16) = op) : LatchConsistent (raiseUnmappedOpcode op s) := by
  refine ⟨by simp [raiseUnmappedOpcode], ?_⟩
  rintro fi hfi
  cases hfi
  exact ⟨rfl, htable, hread⟩

/-- The effect of the instruction fetched in `RUN` leaves the latch consistent: filled by an unmapped byte, empty after
every other. -/
theorem latchConsistent_formEffect {s : State} (hst : s.status = .run) (hfi : s.faultInfo = none) :
    LatchConsistent (formEffect s.fetchInstr.1.form s.fetchInstr.2) := by
  by_cases h : ∃ op, s.fetchInstr.1.form = .unmapped op
  · obtain ⟨op, hform⟩ := h
    obtain ⟨rfl, htable, hstate⟩ := fetchInstr_unmapped hform
    rw [hform, hstate]
    refine latchConsistent_raiseUnmappedOpcode htable ?_
    rw [BitVec.add_sub_cancel]
    rfl
  · obtain ⟨_, _, hst', hfi'⟩ := formEffect_control (fun op hop => h ⟨op, hop⟩) s.fetchInstr.2
    exact latchConsistent_of_run (by simp [hst', hst]) (by simp [hfi', hfi])

/-- Settles O56: in `FAULT` nothing changes; in `RUN` each part of the invariant is kept by the effect and the account. -/
theorem stepKeepsTheInvariant : Obligations.StepKeepsTheInvariant := by
  rintro s t ⟨hmem, hcyc, hlatch⟩ hstep
  rcases step_cases hstep with ⟨_, rfl⟩ | ⟨hrun, rfl⟩
  · exact ⟨hmem, hcyc, hlatch⟩
  · refine ⟨?_, account_cyc_lt _ (by simpa using hcyc), latchConsistent_account ?_⟩
    · rw [account_mem]
      exact formEffect_wf _ (by rwa [fetchInstr_mem])
    · exact latchConsistent_formEffect hrun (hlatch.1.1 hrun)

end Sys2Proof.Machine
end

section
/-! SUPPORT. The flag byte (R14) and the register views (R17, R19), and the statements about them. -/

namespace Sys2Proof.Machine

theorem toNat_toByte (f : Flags) :
    f.toByte.toNat = 128 * f.z.toNat + 64 * f.n.toNat + 32 * f.h.toNat + 16 * f.c.toNat := by
  obtain ⟨z, n, h, c⟩ := f
  revert z n h c
  decide

/-- R12, R13: the bits of the flag byte, from bit 0 on. -/
theorem getLsbD_toByte (f : Flags) {i : Nat} (hi : i < 8) :
    f.toByte.getLsbD i = [false, false, false, false, f.c, f.h, f.n, f.z].getD i false := by
  obtain ⟨z, n, h, c⟩ := f
  revert z n h c i
  decide

@[simp] theorem fromByte_toByte (f : Flags) : Flags.fromByte f.toByte = f := by
  simp [Flags.fromByte, getLsbD_toByte, -BitVec.getLsbD_eq_getElem]

/-- R13: the low nibble is dropped, the high nibble kept. -/
theorem toByte_fromByte (b : Byte) : (Flags.fromByte b).toByte = b &&& 0xF0#8 := by
  apply BitVec.eq_of_getLsbD_eq
  intro i hi
  rw [getLsbD_toByte _ hi, BitVec.getLsbD_and]
  interval_cases i <;> simp [Flags.fromByte]

/-- Settles O2: the byte of a flag register by its four flags, the byte read back bit by bit. -/
theorem flagByteRoundTrip : Obligations.FlagByteRoundTrip :=
  ⟨toNat_toByte, fun _ => ⟨rfl, rfl, rfl, rfl⟩, toByte_fromByte, fromByte_toByte⟩

/-- Settles O3: reads after a write by `getR8_setR8`, the words by the arithmetic of their halves. -/
theorem pairViewsShareStorage : Obligations.PairViewsShareStorage := by
  refine ⟨getR8_setR8, fun s => ?_, fun s v => ?_, fun s w => ?_⟩
  · exact ⟨(makeAddress_halves s.bc).symm, (makeAddress_halves s.de).symm, (makeAddress_halves s.hl).symm⟩
  · simp [State.setR8]
  · exact ⟨rfl, rfl, rfl, rfl, rfl, rfl⟩

end Sys2Proof.Machine
end

section
/-! SUPPORT. What an instruction reads and writes (R23): the zero flag, which `PUSH AF` alone reads, and the writers of
each element. -/

namespace Sys2Proof.Machine

open Safety

theorem exec_eq_next {i : Instr} {s t : State} : exec i s = .next t ↔ formEffect i.form s = t := by
  rw [exec_eq, Host.Outcome.next.injEq]

/-- R23: a form that writes the flags sets `Z` anew and does not read it. -/
theorem formEffect_withZ {φ : Form} (hφ : usesFlags φ = true) (hpush : φ ≠ .pushAF) (s : State) (z : Bool) :
    formEffect φ { s with f := { s.f with z := z } } = formEffect φ s := by
  cases φ with
  | alu op src =>
    have h : ({ s with f := { s.f with z := z } } : State).operand src = s.operand src :=
      operand_congr rfl rfl rfl rfl rfl src
    simp only [formEffect, aluAccumulator, h]
  | daa | popAF => rfl
  | pushAF => exact absurd rfl hpush
  | _ => cases hφ

/-- Settles O55: a form that does not use the flags carries `Z` through, every other but `PUSH AF` overwrites it. -/
theorem zeroFlagIsReadByPushAFAlone : Obligations.ZeroFlagIsReadByPushAFAlone := by
  intro i s t z hpush h
  obtain rfl := exec_eq_next.1 h
  cases hφ : usesFlags i.form with
  | false =>
    refine ⟨z, exec_eq_next.2 ?_⟩
    simpa only [formEffect_f hφ, formEffect_cyc] using
      formEffect_withCycFlags hφ s s.cyc { s.f with z := z }
  | true => exact ⟨(formEffect i.form s).f.z, exec_eq_next.2 (formEffect_withZ hφ hpush s z)⟩

/-- Settles O54, form by form: each form leaves every element it is not a writer of. -/
theorem elementsChangeOnlyByTheirWriters : Obligations.ElementsChangeOnlyByTheirWriters := by
  intro i s t h
  obtain rfl := exec_eq_next.1 h
  generalize i.form = φ
  cases φ with
  | copy dst src => cases dst <;> simp [formEffect, copyRegister, State.setR8, halves]
  | loadImm dst d8 => cases dst <;> simp [formEffect, loadImmediate, State.setR8, halves]
  | loadHL dst => cases dst <;> simp [formEffect, loadThroughHL, State.setR8, halves]
  | load16 dst d16 => cases dst <;> simp [formEffect, loadImmediate16, State.set16]
  | pop p => cases p <;> simp [formEffect, popPair, State.setPair]
  | load m => simp [formEffect, loadAccumulator]
  | loadPost p => simp [formEffect, loadPostModify]
  | storeHL src => simp [formEffect, storeThroughHL]
  | store m => simp [formEffect, storeAccumulator]
  | storePost p => simp [formEffect, storePostModify]
  | push p => simp [formEffect, pushPair]
  | pushAF => simp [formEffect, pushAF]
  | popAF => simp [formEffect, popAF]
  | alu op src => cases op <;> simp [formEffect, aluAccumulator, writesAccumulator]
  | daa => simp [formEffect, decimalAdjustAccumulator]
  | unmapped op => simp [formEffect]

end Sys2Proof.Machine
end

section
/-! SUPPORT. One byte of memory at a time, and the one canonical list: what memory holds is known from its reads. -/

namespace Sys2Proof.Machine

namespace Memory

/-- A canonical list is its first cell, at an address below all others, and a canonical rest. -/
theorem wf_cons {c : Host.Cell} {m : Memory} :
    wf (c :: m) ↔ (∀ x ∈ m, c.1 < x.1) ∧ (c.1 < 65536 ∧ c.2 ≠ Config.unlistedByte) ∧ wf m := by
  simp only [wf, List.pairwise_cons, List.forall_mem_cons]
  tauto

theorem read_cons_same (c : Host.Cell) (m : Memory) : read (c :: m) c.1 = c.2 := by simp [read]

theorem read_cons_other {c : Host.Cell} {a : Nat} (m : Memory) (h : c.1 ≠ a) : read (c :: m) a = read m a := by
  simp [read, h]

/-- A cell that does not hold the unlisted byte is seen by a read, so a memory that reads alike at its address does not
list larger addresses alone. -/
theorem exists_mem_le_of_read_eq {c : Host.Cell} {m m' : Memory} (hc : c.2 ≠ Config.unlistedByte)
    (h : read (c :: m) c.1 = read m' c.1) : ∃ x ∈ m', x.1 ≤ c.1 := by
  by_contra! hlt
  rw [read_cons_same, read_of_lt hlt] at h
  exact hc h

/-- A list sorted by address that reads alike at the address of such a cell begins at that address or below it. -/
theorem head_le_of_read_eq {c c' : Host.Cell} {m m' : Memory} (hc : c.2 ≠ Config.unlistedByte)
    (hlt : ∀ x ∈ m', c'.1 < x.1) (h : read (c :: m) c.1 = read (c' :: m') c.1) : c'.1 ≤ c.1 := by
  obtain ⟨x, hx, hle⟩ := exists_mem_le_of_read_eq hc h
  rcases List.mem_cons.1 hx with rfl | hx
  · exact hle
  · exact (hlt x hx).le.trans hle

/-- The canonical form is one, by induction on the two lists: their first cells agree, and so do the rests. -/
theorem eq_of_read_eq {m m' : Memory} (hm : wf m) (hm' : wf m')
    (h : ∀ a, a < 65536 → read m a = read m' a) : m = m' := by
  induction m generalizing m' with
  | nil =>
    cases m' with
    | nil => rfl
    | cons c' m' =>
      obtain ⟨-, ⟨ha', hv'⟩, -⟩ := wf_cons.1 hm'
      obtain ⟨x, hx, -⟩ := exists_mem_le_of_read_eq hv' (h _ ha').symm
      cases hx
  | cons c m ih =>
    obtain ⟨hlt, ⟨ha, hv⟩, hwf⟩ := wf_cons.1 hm
    cases m' with
    | nil =>
      obtain ⟨x, hx, -⟩ := exists_mem_le_of_read_eq hv (h _ ha)
      cases hx
    | cons c' m' =>
      obtain ⟨hlt', ⟨ha', hv'⟩, hwf'⟩ := wf_cons.1 hm'
      have haddr : c.1 = c'.1 :=
        le_antisymm (head_le_of_read_eq hv' hlt (h _ ha').symm) (head_le_of_read_eq hv hlt' (h _ ha))
      have hbyte : c.2 = c'.2 := by
        have hread := h _ ha
        rwa [read_cons_same, haddr, read_cons_same] at hread
      obtain rfl : c = c' := Prod.ext haddr hbyte
      congr 1
      refine ih hwf hwf' fun a ha => ?_
      by_cases hca : c.1 = a
      · subst hca
        rw [read_of_lt hlt, read_of_lt hlt']
      · have hread := h a ha
        rwa [read_cons_other _ hca, read_cons_other _ hca] at hread

end Memory

/-- Settles O5: the list is determined by its reads. -/
theorem equalReadsGiveEqualMemories : Obligations.EqualReadsGiveEqualMemories :=
  fun _ _ => Memory.eq_of_read_eq

/-- Settles O4, by `readByte_writeByte` at the address written and at every other. -/
theorem memoryByteWrittenIsRead : Obligations.MemoryByteWrittenIsRead := by
  refine fun s a v => ⟨?_, fun b hb => ?_, rfl⟩
  · rw [readByte_writeByte, if_pos rfl]
  · rw [readByte_writeByte, if_neg (by simpa using hb)]

end Sys2Proof.Machine
end

section
/-! SUPPORT. The order of a step's transactions (R54, R57), and that its writes are all that happens to memory. -/

namespace Sys2Proof.Machine

open Safety

theorem stepAccesses_run {s : State} (h : s.status = .run) :
    stepAccesses s =
      fetchAccesses s s.fetchInstr.1.length ++ dataAccesses s.fetchInstr.1 s.fetchInstr.2 := by
  simp [stepAccesses, h]

theorem stepAccesses_fault {s : State} (h : s.status = .fault) : stepAccesses s = [] := by
  simp [stepAccesses, h]

/-- R102: the first transaction of a running step is the opcode fetch. -/
theorem stepAccesses_head? {s : State} (h : s.status = .run) :
    (stepAccesses s).head? = some (.read s.pc (s.readByte s.pc)) := by
  rw [stepAccesses_run h, Instr.length, fetchAccesses]
  rfl

/-- A form makes at most two data accesses, all in one direction. -/
theorem dataAccesses_bound (i : Instr) (s : State) :
    (dataAccesses i s).length ≤ 2 ∧
      ((∀ x ∈ dataAccesses i s, isWrite x = true) ∨ (∀ x ∈ dataAccesses i s, isWrite x = false)) := by
  unfold dataAccesses
  cases i.form with
  | storeHL | store | storePost | push | pushAF => exact ⟨by simp, .inl (by simp [isWrite])⟩
  | alu op src => cases src <;> exact ⟨by simp, .inr (by simp [isWrite, State.readAccess])⟩
  | copy | loadImm | loadHL | load | loadPost | load16 | pop | popAF | daa | unmapped =>
    exact ⟨by simp, .inr (by simp [isWrite, State.readAccess])⟩

/-- Settles O53: the fetches by `fetchAccesses_eq_range`, the data accesses form by form, the addresses of the accumulator
loads and stores as the spec prints them by `address_eq_specAddress`. -/
theorem accessesFollowTheirOrder : Obligations.AccessesFollowTheirOrder := by
  refine ⟨fun s hs => ⟨?_, stepAccesses_head? hs⟩, fun i s => ?_, dataAccesses_bound⟩
  · rw [stepAccesses_run hs, fetchAccesses_eq_range]
  · simp only [dataAccesses, State.readAccess, address_eq_specAddress]
    refine ⟨?_, ?_, ?_, ?_, ?_, ?_, ?_, ?_, ?_, ?_, ?_, ?noAccess⟩
    case noAccess =>
      rintro (⟨r, r', h⟩ | ⟨r, v, h⟩ | ⟨r, w, h⟩ | ⟨op, r, h⟩ | ⟨op, v, h⟩ | h | ⟨op, h⟩) <;> simp only [h]
    all_goals intros; simp only [*]

end Sys2Proof.Machine
end

section
/-! SUPPORT. A step's port writes, applied one after another, are its whole effect on memory (R51, R52, R57). -/

namespace Sys2Proof.Machine

open Safety

/-- What a transaction does to memory does not depend on the rest of the state. -/
theorem foldl_replay_mem_congr {s t : State} (h : s.mem = t.mem) (l : List Access) :
    (l.foldl replay s).mem = (l.foldl replay t).mem := by
  induction l generalizing s t with
  | nil => exact h
  | cons x l ih =>
    refine ih ?_
    cases x with
    | read a v => exact h
    | write a v => simp [replay, State.writeByte, h]

/-- R103: fetches leave everything as it was. -/
theorem foldl_replay_fetchAccesses (s t : State) (n : Nat) : (fetchAccesses s n).foldl replay t = t := by
  induction n generalizing s with
  | zero => rfl
  | succ n ih => exact ih s.fetch8.2

/-- R52: the data writes of an instruction, in their order, are all that its effect does to memory. -/
theorem formEffect_mem (i : Instr) (s : State) :
    (formEffect i.form s).mem = ((dataAccesses i s).foldl replay s).mem := by
  unfold dataAccesses
  cases i.form with
  | copy | loadImm | loadHL => exact setR8_mem ..
  | load16 => exact set16_mem ..
  | pop => exact setPair_mem ..
  | push | pushAF => rw [← sub_one_sub_one]; rfl
  | alu op src => cases src <;> rfl
  | load | loadPost | storeHL | store | storePost | popAF | daa | unmapped => rfl

/-- Settles O52: the fetches change nothing, and the data accesses make the memory that the effect leaves. -/
theorem portWritesExplainMemory : Obligations.PortWritesExplainMemory := by
  intro s t hstep
  rcases step_cases hstep with ⟨hs, rfl⟩ | ⟨hs, rfl⟩
  · rw [stepAccesses_fault hs, List.foldl_nil]
  · rw [account_mem, formEffect_mem, stepAccesses_run hs, List.foldl_append, foldl_replay_fetchAccesses]
    exact foldl_replay_mem_congr (fetchInstr_mem s) _

end Sys2Proof.Machine
end

section
/-! SUPPORT. A byte stored by one step is the byte the next step fetches (R55). -/

namespace Sys2Proof.Machine

/-- R54, R57: transaction `k` of a running step is the fetch of byte `k` of the instruction. -/
theorem stepAccesses_getElem? {s : State} (hs : s.status = .run) {k : Nat} (hk : k < s.fetchInstr.1.length) :
    (stepAccesses s)[k]? = some (s.readAccess (s.pc + BitVec.ofNat 16 k)) := by
  rw [stepAccesses_run hs, fetchAccesses_eq_range, List.getElem?_append_left (by simpa using hk)]
  simp [hk]

/-- A byte that a step writes at its port is in memory after it, and the core still runs. -/
theorem readByte_of_mem_stepAccesses {s t : State} {a : Word} {v : Byte} (hstep : step s = .next t)
    (h : .write a v ∈ stepAccesses s) : t.readByte a = v ∧ t.status = .run := by
  rcases step_cases hstep with ⟨hs, rfl⟩ | ⟨hs, rfl⟩
  · rw [stepAccesses_fault hs] at h
    cases h
  · rw [stepAccesses_run hs, List.mem_append] at h
    have hdata := h.resolve_left (write_notMem_fetchAccesses s s.fetchInstr.1.length a v)
    obtain ⟨hbyte, hmapped⟩ := readByte_of_mem_dataAccesses hdata
    obtain ⟨-, -, hstatus, -⟩ := formEffect_control hmapped s.fetchInstr.2
    exact ⟨(readByte_congr (account_mem ..) a).trans hbyte, by rw [account_status, hstatus, fetchInstr_status, hs]⟩

/-- R129 at opcode 0x77: the fetch of `LD (HL),A`. -/
theorem fetchInstr_ldAtHL_A {s : State} (h : s.readByte s.pc = 0x77#8) :
    s.fetchInstr = (.ldAtHL_A, s.fetch8.2) := by
  unfold State.fetchInstr
  simp only [fetch8_value, h]
  rfl

/-- R129: a running step on `LD (HL),A` writes the accumulator at `HL` and moves `PC` by one. -/
theorem step_ldAtHL_A {s t : State} (hs : s.status = .run) (hop : s.readByte s.pc = 0x77#8)
    (hstep : step s = .next t) : .write s.hl s.a ∈ stepAccesses s ∧ t.pc = s.pc + 1#16 := by
  constructor
  · rw [stepAccesses_run hs, fetchInstr_ldAtHL_A hop]
    exact List.mem_append_right _ (List.mem_singleton_self _)
  · rw [step, stepWith_run _ hs, fetchInstr_ldAtHL_A hop, Host.Outcome.next.injEq] at hstep
    rw [← hstep, account_pc]
    rfl

/-- Settles O51: the byte stored is in memory, where the next step reads each byte of its instruction. -/
theorem storeIsSeenByTheNextFetch : Obligations.StoreIsSeenByTheNextFetch := by
  refine ⟨fun s t a v hstep hwrite => ?_, fun s t hs hop hhl hstep => ?_⟩
  · obtain ⟨hbyte, hrun⟩ := readByte_of_mem_stepAccesses hstep hwrite
    refine ⟨hbyte, ?_, fun k hk ha => ?_⟩
    · rintro rfl
      rw [fetchInstr_opcode, hbyte]
    · rw [stepAccesses_getElem? hrun hk, encode_fetchInstr_getElem t hk, State.readAccess, ha, hbyte]
      exact ⟨rfl, rfl⟩
  · obtain ⟨hwrite, hpc⟩ := step_ldAtHL_A hs hop hstep
    obtain ⟨hbyte, -⟩ := readByte_of_mem_stepAccesses hstep hwrite
    have hnext : t.pc = s.hl := hpc.trans hhl.symm
    exact ⟨hnext, by rw [fetchInstr_opcode, hnext, hbyte]⟩

end Sys2Proof.Machine
end

section
/-! SUPPORT. A step takes nothing from memory but the bytes its port reads list (R41, R57): under another memory that
answers those reads alike, each part of the step does the same. -/

namespace Sys2Proof.Machine

/-- A memory answers every read of a list of transactions with the byte listed. -/
def AnswersReads (m : Memory) (l : List Access) : Prop := ∀ a v, .read a v ∈ l → m.read a.toNat = v

theorem answersReads_append {m : Memory} {l l' : List Access} :
    AnswersReads m (l ++ l') ↔ AnswersReads m l ∧ AnswersReads m l' := by
  simp only [AnswersReads, List.mem_append, or_imp, forall_and]

theorem AnswersReads.readByte {m : Memory} {l : List Access} (h : AnswersReads m l) {s : State} {a : Word}
    (ha : s.readAccess a ∈ l) : ({ s with mem := m } : State).readByte a = s.readByte a := h _ _ ha

/-- R103: a memory that answers the fetches gives the bytes of the instruction. -/
theorem AnswersReads.readByte_fetch {m : Memory} {s : State} {n : Nat} (h : AnswersReads m (fetchAccesses s n))
    {k : Nat} (hk : k < n) :
    ({ s with mem := m } : State).readByte (s.pc + BitVec.ofNat 16 k) = s.readByte (s.pc + BitVec.ofNat 16 k) := by
  refine h.readByte ?_
  rw [fetchAccesses_eq_range]
  exact List.mem_map_of_mem (List.mem_range.2 hk)

theorem fetchAccesses_withMem {m : Memory} {s : State} {n : Nat} (h : AnswersReads m (fetchAccesses s n)) :
    fetchAccesses { s with mem := m } n = fetchAccesses s n := by
  simp only [fetchAccesses_eq_range]
  refine List.map_congr_left fun k hk => ?_
  rw [State.readAccess, State.readAccess, h.readByte_fetch (List.mem_range.1 hk)]

/-- R102 to R105: a memory that answers the fetches of an instruction gives that instruction. -/
theorem fetchInstr_withMem {m : Memory} {s : State} (h : AnswersReads m (fetchAccesses s s.fetchInstr.1.length)) :
    ({ s with mem := m } : State).fetchInstr = (s.fetchInstr.1, { s.fetchInstr.2 with mem := m }) := by
  have hbyte {k : Nat} (hk : k < s.fetchInstr.1.length) := h.readByte_fetch hk
  have hop : ({ s with mem := m } : State).readByte s.pc = s.readByte s.pc := by
    simpa using hbyte (Nat.succ_pos _)
  have hs := Laws.entryAt (s.readByte s.pc)
  unfold State.fetchInstr at hbyte ⊢
  simp only [fetch8_value, hop] at hbyte ⊢
  cases ht : table (s.readByte s.pc) with
  | none => rfl
  | some e =>
    rw [ht] at hs
    simp only [ht] at hbyte
    cases e with
    | implied j => rfl
    | imm8 f =>
      have h1 := hbyte (k := 1) (by simp [Instr.length, (hs _).2.1])
      exact Prod.ext (congrArg f h1) rfl
    | imm16 f =>
      have h1 := hbyte (k := 1) (by simp [Instr.length, (hs _).2.1])
      have h2 := hbyte (k := 2) (by simp [Instr.length, (hs _).2.1])
      refine Prod.ext (congrArg f (congrArg₂ wordLe h1 ?_)) rfl
      simpa only [fetch8_value, fetch8_pc, readByte_fetch8, add_one_add_one] using h2

theorem address_withMem (s : State) (m : Memory) (md : Mode) :
    ({ s with mem := m } : State).address md = s.address md := by cases md <;> rfl

theorem getR8_withMem (s : State) (m : Memory) (r : R8) :
    ({ s with mem := m } : State).getR8 r = s.getR8 r := getR8_congr rfl rfl rfl rfl r

theorem getPair_withMem (s : State) (m : Memory) (p : Pair) :
    ({ s with mem := m } : State).getPair p = s.getPair p := by cases p <;> rfl

theorem setR8_withMem (s : State) (m : Memory) (r : R8) (v : Byte) :
    ({ s with mem := m } : State).setR8 r v = { s.setR8 r v with mem := m } := by cases r <;> rfl

theorem set16_withMem (s : State) (m : Memory) (r : Reg16) (w : Word) :
    ({ s with mem := m } : State).set16 r w = { s.set16 r w with mem := m } := by cases r <;> rfl

/-- A memory that answers the data reads of an instruction makes it list the same data accesses. -/
theorem dataAccesses_withMem {m : Memory} {i : Instr} {s : State} (h : AnswersReads m (dataAccesses i s)) :
    dataAccesses i { s with mem := m } = dataAccesses i s := by
  have hread {a : Word} (ha : s.readAccess a ∈ dataAccesses i s) :
      ({ s with mem := m } : State).readAccess a = s.readAccess a := congrArg (Access.read a) (h.readByte ha)
  unfold dataAccesses at hread ⊢
  cases hf : i.form with
  | loadHL | loadPost | pop | popAF => simp [hf, hread]
  | load md => simp [hf, hread, address_withMem]
  | alu op src => cases src <;> simp [hf, hread]
  | storeHL src => simp [getR8_withMem]
  | store md => simp [address_withMem]
  | push src => simp [getPair_withMem]
  | copy | loadImm | storePost | load16 | pushAF | daa | unmapped => rfl

/-- The effect of a form takes from memory what its data reads list. -/
theorem formEffect_withMem {m : Memory} {i : Instr} {s : State} (h : AnswersReads m (dataAccesses i s)) :
    ∃ m', formEffect i.form { s with mem := m } = { formEffect i.form s with mem := m' } := by
  have hread {a : Word} (ha : s.readAccess a ∈ dataAccesses i s) :
      ({ s with mem := m } : State).readByte a = s.readByte a := h.readByte ha
  unfold dataAccesses at hread
  cases hf : i.form with
  | copy dst src => exact ⟨m, by simp only [formEffect, copyRegister, setR8_withMem, getR8_withMem]⟩
  | loadImm dst d8 => exact ⟨m, setR8_withMem ..⟩
  | load16 dst d16 => exact ⟨m, set16_withMem ..⟩
  | loadHL dst =>
    have hv := hread (a := s.hl) (by simp [hf])
    exact ⟨m, by simp only [formEffect, loadThroughHL, hv, setR8_withMem]⟩
  | loadPost p =>
    have hv := hread (a := s.hl) (by simp [hf])
    exact ⟨m, by simp only [formEffect, loadPostModify, hv]⟩
  | load md =>
    have hv := hread (a := s.address md) (by simp [hf])
    exact ⟨m, by simp only [formEffect, loadAccumulator, address_withMem, hv]⟩
  | pop dst =>
    have hlo := hread (a := s.sp) (by simp [hf])
    have hhi := hread (a := s.sp + 1#16) (by simp [hf])
    refine ⟨m, ?_⟩
    simp only [formEffect, popPair, popByte_popByte, popByte_value, hlo, hhi]
    cases dst <;> rfl
  | popAF =>
    have hlo := hread (a := s.sp) (by simp [hf])
    have hhi := hread (a := s.sp + 1#16) (by simp [hf])
    exact ⟨m, by simp only [formEffect, popAF, popByte_popByte, popByte_value, hlo, hhi]⟩
  | alu op src =>
    have hv : ({ s with mem := m } : State).operand src = s.operand src := by
      cases src with
      | reg r => exact getR8_withMem s m r
      | atHL => exact hread (by simp [hf])
      | imm d8 => rfl
    exact ⟨m, by simp only [formEffect, aluAccumulator, hv]⟩
  | storeHL | store | storePost | push | pushAF | daa | unmapped => exact ⟨_, rfl⟩

theorem account_withMem (P : Params) (i : Instr) (s : State) (m : Memory) :
    account P i { s with mem := m } = { account P i s with mem := m } := by
  unfold account
  split <;> rfl

/-- Settles O60: the fetch, the data accesses, the effect and the account are each the same under the other memory. -/
theorem portReadsExplainTheResult : Obligations.PortReadsExplainTheResult := by
  intro s t m hstep hreads
  rcases step_cases hstep with ⟨hs, rfl⟩ | ⟨hs, rfl⟩
  · have hs' : ({ t with mem := m } : State).status = .fault := hs
    exact ⟨by rw [stepAccesses_fault hs, stepAccesses_fault hs'], _, stepWith_fault _ hs', rfl⟩
  · have hs' : ({ s with mem := m } : State).status = .run := hs
    have hreads : AnswersReads m (stepAccesses s) := hreads
    rw [stepAccesses_run hs, answersReads_append] at hreads
    obtain ⟨hfetch, hdata⟩ := hreads
    constructor
    · rw [stepAccesses_run hs, stepAccesses_run hs', fetchInstr_withMem hfetch, fetchAccesses_withMem hfetch,
        dataAccesses_withMem hdata]
    · obtain ⟨m', heffect⟩ := formEffect_withMem hdata
      refine ⟨_, stepWith_run _ hs', ?_⟩
      rw [fetchInstr_withMem hfetch, heffect, account_withMem]

end Sys2Proof.Machine
end

section
/-! SUPPORT. Decoder and encoder (R60 to R76): what the decoder answers for each kind of table entry, that it and the
encoder are inverse to each other, and what the opcode byte alone fixes. -/

namespace Sys2Proof.Laws

open Safety

/-! ### The decoder by the kind of table entry -/

theorem decode_of_none {op : Byte} (h : table op = none) (rest : List Byte) :
    decode (op :: rest) = .ok (.unmapped op, rest) := by
  simp only [decode, h]

theorem decode_of_implied {op : Byte} {i : Instr} (h : table op = some (.implied i)) (rest : List Byte) :
    decode (op :: rest) = .ok (i, rest) := by
  simp only [decode, h]

theorem decode_of_imm8 {op : Byte} {k : Byte → Instr} (h : table op = some (.imm8 k)) (d8 : Byte) (rest : List Byte) :
    decode (op :: d8 :: rest) = .ok (k d8, rest) := by
  simp only [decode, h]

theorem decode_of_imm16 {op : Byte} {k : Word → Instr} (h : table op = some (.imm16 k)) (lo hi : Byte)
    (rest : List Byte) : decode (op :: lo :: hi :: rest) = .ok (k (wordLe lo hi), rest) := by
  simp only [decode, h]

/-- R75: the text ends inside the instruction. -/
theorem decode_of_imm8_nil {op : Byte} {k : Byte → Instr} (h : table op = some (.imm8 k)) :
    decode [op] = .error (.missingImmediate op) := by
  simp only [decode, h]

/-- R75: the text ends inside the instruction. -/
theorem decode_of_imm16_short {op : Byte} {k : Word → Instr} (h : table op = some (.imm16 k)) {rest : List Byte}
    (hrest : rest.length < 2) : decode (op :: rest) = .error (.missingImmediate op) := by
  match rest, hrest with
  | [], _ => simp only [decode, h]
  | [_], _ => simp only [decode, h]

/-! ### The two round trips -/

/-- Settles O15: the entry at the opcode of `i` gives `i` back from its immediates, and the decoder follows the entry. -/
theorem decodeInvertsEncode : Obligations.DecodeInvertsEncode := by
  intro i rest hwf
  have hentry := tableEntry i hwf
  rw [encode]
  cases ht : table i.form.opcode with
  | none =>
    rw [ht] at hentry
    obtain ⟨hi, himm⟩ := hentry
    rw [himm, List.singleton_append, decode_of_none ht, ← hi]
  | some e =>
    rw [ht] at hentry
    cases e with
    | implied j =>
      obtain ⟨rfl, himm⟩ := hentry
      rw [himm, List.singleton_append, decode_of_implied ht]
    | imm8 k =>
      obtain ⟨v, hk, himm⟩ := hentry
      rw [himm, List.cons_append, List.singleton_append, decode_of_imm8 ht, hk]
    | imm16 k =>
      obtain ⟨w, hk, himm⟩ := hentry
      rw [himm, List.cons_append, List.cons_append, List.singleton_append, decode_of_imm16 ht, wordLe_halves, hk]

/-- Settles O16: the instructions of an entry stand at the entry's byte and have the immediates it asks for. -/
theorem encodeInvertsDecode : Obligations.EncodeInvertsDecode := by
  rintro (_ | ⟨op, tail⟩) rest i h
  · cases h
  have hentry := entryAt op
  cases ht : table op with
  | none =>
    rw [decode_of_none ht] at h
    cases h
    exact ⟨Option.isNone_iff_eq_none.2 ht, rfl⟩
  | some e =>
    rw [ht] at hentry
    cases e with
    | implied j =>
      obtain ⟨hop, himm, hwf⟩ := hentry
      rw [decode_of_implied ht] at h
      cases h
      exact ⟨hwf, by rw [encode, hop, himm, List.singleton_append]⟩
    | imm8 k =>
      match tail with
      | [] => rw [decode_of_imm8_nil ht] at h; cases h
      | d8 :: tail =>
        obtain ⟨hop, himm, hwf⟩ := hentry d8
        rw [decode_of_imm8 ht] at h
        cases h
        exact ⟨hwf, by rw [encode, hop, himm, List.cons_append, List.singleton_append]⟩
    | imm16 k =>
      match tail with
      | lo :: hi :: tail =>
        obtain ⟨hop, himm, hwf⟩ := hentry (wordLe lo hi)
        rw [decode_of_imm16 ht] at h
        cases h
        refine ⟨hwf, ?_⟩
        rw [encode, hop, himm, loByte_wordLe, hiByte_wordLe, List.cons_append, List.cons_append, List.singleton_append]
      | [] | [_] => rw [decode_of_imm16_short ht (by simp)] at h; cases h

/-! ### What the opcode byte fixes -/

/-- R60, R68: the bytes that the instructions of a table entry take; a byte with no entry stands alone. -/
def entryLength : Option Handler → Nat
  | none | some (.implied _) => 1
  | some (.imm8 _) => 2
  | some (.imm16 _) => 3

/-- R68's length table agrees with R69's grid at every byte. -/
theorem entryLength_table : ∀ op : Byte, entryLength (table op) = lengthOfR68 op := by
  decide

theorem length_eq_entryLength {i : Instr} (hwf : i.WellFormed) : i.length = entryLength (table i.form.opcode) := by
  have hentry := tableEntry i hwf
  rw [Instr.length]
  generalize table i.form.opcode = entry at hentry ⊢
  cases entry with
  | none => rw [hentry.2]; rfl
  | some e =>
    cases e with
    | implied j => rw [hentry.2]; rfl
    | imm8 k =>
      obtain ⟨v, -, himm⟩ := hentry
      rw [himm]
      rfl
    | imm16 k =>
      obtain ⟨w, -, himm⟩ := hentry
      rw [himm]
      rfl

/-- Settles O14: the entry at the opcode asks for the immediates of `i`, and R68 counts them. -/
theorem lengthIsFixedByTheOpcode : Obligations.LengthIsFixedByTheOpcode := fun i hwf =>
  ⟨by rw [length_eq_entryLength hwf, entryLength_table], rfl, rfl⟩

/-- R69, R70: the grid's empty places are the bytes of R70. -/
theorem isNone_table : ∀ op : Byte, (table op).isNone = decide (op ∈ bytesOfR70) := by
  decide

theorem nodup_bytesOfR70 : bytesOfR70.Nodup := by decide

/-- Settles O13: byte by byte against the grid, and the decoder's answer for a byte with no entry. -/
theorem unmappedBytesAreExactlyThose : Obligations.UnmappedBytesAreExactlyThose := by
  have hnone (op : Byte) : table op = none ↔ op ∈ bytesOfR70 := by
    rw [← Option.isNone_iff_eq_none, isNone_table, decide_eq_true_iff]
  exact ⟨hnone, rfl, nodup_bytesOfR70, fun op rest hop => decode_of_none ((hnone op).2 hop) rest⟩

/-! ### Written-out encodings -/

/-- Settles O11: the four byte strings are the encodings of the instructions R76 names. -/
theorem namedOpcodesDecode : Obligations.NamedOpcodesDecode :=
  ⟨fun d8 rest => decodeInvertsEncode (.ldA_d8 d8) rest rfl, fun rest =>
    ⟨decodeInvertsEncode .addA_A rest rfl, decodeInvertsEncode .pushAF rest rfl, decodeInvertsEncode .popAF rest rfl⟩⟩

/-- Settles O12: fourteen closed byte strings, each read by the decoder. -/
theorem writtenOutWordsDecode : Obligations.WrittenOutWordsDecode := by
  unfold Obligations.WrittenOutWordsDecode
  and_intros <;> decide

end Sys2Proof.Laws
end

section
/-! SUPPORT. Addition, subtraction and the bitwise operations (R82 to R86): results as words and as numbers, masks as
remainders, and the algebraic facts (R92), with the statements about them. -/

namespace Sys2Proof.Machine

/-! ### Addition and subtraction -/

/-- R89: the sum, cut to its width at the end, is the wrapped sum of the operands. -/
theorem addW_result {W : Nat} (a b : BitVec W) (cin : Bool) :
    (addW a b cin).1 = a + b + BitVec.ofNat W cin.toNat := by
  simp [addW, BitVec.ofNat_add]

theorem toNat_addW {W : Nat} (a b : BitVec W) (cin : Bool) :
    (addW a b cin).1.toNat = (a.toNat + b.toNat + cin.toNat) % 2 ^ W := BitVec.toNat_ofNat ..

theorem addW_comm {W : Nat} (a b : BitVec W) (cin : Bool) : addW a b cin = addW b a cin := by
  simp only [addW, Nat.add_comm]

/-- R89: the difference, cut to its width at the end, is the wrapped difference of the operands. -/
theorem subW_result {W : Nat} (a b : BitVec W) (cin : Bool) :
    (subW a b cin).1 = a - b - BitVec.ofNat W cin.toNat := by
  simp [subW, Int.sub_eq_add_neg, BitVec.ofInt_add, BitVec.ofInt_neg, BitVec.sub_eq_add_neg]

/-- The difference in naturals: `b + cin` is at most `2 ^ W`, so nothing is cut off at zero. -/
theorem toNat_subW {W : Nat} (a b : BitVec W) (cin : Bool) :
    (subW a b cin).1.toNat = (a.toNat + 2 ^ W - (b.toNat + cin.toNat)) % 2 ^ W := by
  have hle : b.toNat + cin.toNat ≤ a.toNat + 2 ^ W := by
    have := b.isLt
    have := cin.toNat_le
    omega
  have hdiff : (a.toNat : Int) - b.toNat - cin.toNat =
      (a.toNat + 2 ^ W - (b.toNat + cin.toNat) : Nat) - (2 ^ W : Nat) := by omega
  rw [subW, BitVec.toNat_ofInt, hdiff, Int.sub_emod_right, ← Int.natCast_emod, Int.toNat_natCast]

theorem toNat_and_lowNibble (b : Byte) : (b &&& 0x0F#8).toNat = b.toNat % 16 :=
  Nat.and_two_pow_sub_one_eq_mod b.toNat 4

theorem toNat_and_lowByte (w : Word) : (w &&& 0xFF#16).toNat = w.toNat % 256 :=
  Nat.and_two_pow_sub_one_eq_mod w.toNat 8

/-- Settles O6: the result by `addW_result`, the flags by definition once the masks are read as remainders. -/
theorem additionFollowsItsFormulas : Obligations.AdditionFollowsItsFormulas := by
  refine ⟨fun a b cin => ⟨addW_result a b cin, rfl, rfl, ?_, rfl⟩,
    fun a b cin => ⟨addW_result a b cin, rfl, rfl, ?_, rfl⟩⟩
  · rw [toNat_and_lowNibble, toNat_and_lowNibble]; rfl
  · rw [toNat_and_lowByte, toNat_and_lowByte]; rfl

/-- Settles O7: the result by `subW_result`, the flags by definition once the masks are read as remainders. -/
theorem subtractionFollowsItsFormulas : Obligations.SubtractionFollowsItsFormulas := by
  refine ⟨fun a b cin => ⟨subW_result a b cin, rfl, rfl, ?_, rfl⟩,
    fun a b cin => ⟨subW_result a b cin, rfl, rfl, ?_, rfl⟩⟩
  · rw [toNat_and_lowNibble, toNat_and_lowNibble]; rfl
  · rw [toNat_and_lowByte, toNat_and_lowByte]; rfl

/-! ### Bitwise operations and algebraic facts (R84 to R86, R92) -/

/-- Settles O8: the three functions are their formulas. -/
theorem bitwiseOperationsFollowTheirFormulas : Obligations.BitwiseOperationsFollowTheirFormulas :=
  fun _ _ => ⟨rfl, rfl, rfl⟩

/-- R92: what makes `CP` a comparison. -/
theorem subW_zero_iff {W : Nat} (a b : BitVec W) : (subW a b false).2.z = true ↔ a = b := by
  have hz : (subW a b false).2.z = decide ((subW a b false).1 = 0#W) := rfl
  rw [hz, decide_eq_true_iff, subW_result]
  simp [BitVec.sub_eq_iff_eq_add]

theorem subW_carry_iff {W : Nat} (a b : BitVec W) : (subW a b false).2.c = true ↔ a.toNat < b.toNat :=
  decide_eq_true_iff

/-- R92: `-b` is `~b + 1`, and the borrow takes that one away again. -/
theorem subW_result_eq_addW_not {W : Nat} (a b : BitVec W) (cin : Bool) :
    (subW a b cin).1 = (addW a (~~~b) (!cin)).1 := by
  rw [subW_result, addW_result, BitVec.sub_eq_add_neg a b, BitVec.neg_eq_not_add, ← BitVec.add_assoc]
  cases cin <;> simp

/-- R92: the low nibble of the complement is 15 less the low nibble, so the two half-carries are complements. -/
theorem subW_halfCarry_eq_not_addW_not (a b : Byte) (cin : Bool) :
    (subW a b cin).2.h = !(addW a (~~~b) (!cin)).2.h := by
  have hb : (~~~b).toNat % 16 = 15 - b.toNat % 16 := by rw [BitVec.toNat_not]; omega
  simp only [addW, subW, Nat.reducePow, Nat.reduceDiv, Nat.reduceSub, hb, ← decide_not, decide_eq_decide]
  cases cin <;> simp only [Bool.toNat_true, Bool.toNat_false, Bool.not_true, Bool.not_false] <;> omega

/-- R92: the complement is `0xFF` less the operand, so the two carries are complements. -/
theorem subW_carry_eq_not_addW_not (a b : Byte) (cin : Bool) :
    (subW a b cin).2.c = !(addW a (~~~b) (!cin)).2.c := by
  have hb : (~~~b).toNat = 255 - b.toNat := BitVec.toNat_not
  simp only [addW, subW, Nat.reducePow, Nat.reduceSub, hb, ← decide_not, decide_eq_decide]
  cases cin <;> simp only [Bool.toNat_true, Bool.toNat_false, Bool.not_true, Bool.not_false] <;> omega

/-- Settles O9 from the lemmas above, one for each fact of R92. -/
theorem aluAlgebraicFacts : Obligations.AluAlgebraicFacts :=
  ⟨fun a b => ⟨subW_zero_iff a b, subW_carry_iff a b⟩, addW_comm,
    fun a b cin => ⟨subW_result_eq_addW_not a b cin, subW_halfCarry_eq_not_addW_not a b cin,
      subW_carry_eq_not_addW_not a b cin⟩,
    fun _ => ⟨BitVec.and_self, BitVec.or_self⟩⟩

end Sys2Proof.Machine
end

section
/-! SUPPORT. Decimal adjustment (R87), its decimal ground truth (R93), and the same on the machine. -/

namespace Sys2Proof.Machine

open Safety

/-! ### The corrections as numbers -/

/-- R87 after an addition: both tests read the original value. -/
theorem toNat_decimalAdjust_of_add {f : Flags} (hn : f.n = false) (v : Byte) :
    (decimalAdjust v f).1.toNat = (v.toNat + (if f.h = true ∨ v.toNat % 16 > 9 then 6 else 0) +
      (if f.c = true ∨ v.toNat > 0x99 then 0x60 else 0)) % 256 := by
  simp only [decimalAdjust, decimalCorrection, hn, toNat_and_lowNibble, Bool.or_eq_true, decide_eq_true_iff,
    Bool.false_eq_true, if_false]
  split_ifs <;> simp [Nat.add_assoc, Nat.mod_eq_of_lt v.isLt]

theorem decimalAdjust_carry_of_add {f : Flags} (hn : f.n = false) (v : Byte) :
    (decimalAdjust v f).2.c = decide (f.c = true ∨ v.toNat > 0x99) := by
  simp [decimalAdjust, decimalCorrection, hn]

/-- R87 after a subtraction: the flags alone are read. -/
theorem toNat_decimalAdjust_of_sub {f : Flags} (hn : f.n = true) (v : Byte) :
    (decimalAdjust v f).1.toNat =
      (v.toNat + 256 - (if f.h = true then 6 else 0) - (if f.c = true then 0x60 else 0)) % 256 := by
  simp only [decimalAdjust, decimalCorrection, hn, if_true]
  split_ifs <;> simp [BitVec.toNat_sub] <;> omega

theorem decimalAdjust_carry_of_sub {f : Flags} (hn : f.n = true) (v : Byte) : (decimalAdjust v f).2.c = f.c := by
  simp [decimalAdjust, decimalCorrection, hn]

/-! ### The decimal ground truth (R93) -/

theorem toNat_bcd {k : Nat} (hk : k < 100) : (bcd k).toNat = k / 10 * 16 + k % 10 := by
  rw [bcd, BitVec.toNat_ofNat]
  omega

section
variable {i j : Nat} (hi : i < 100) (hj : j < 100) (cin : Bool)
include hi hj

/-- The low correction is made exactly when the units carry in decimal. -/
theorem addW_bcd_low_iff :
    (addW (bcd i) (bcd j) cin).2.h = true ∨ (addW (bcd i) (bcd j) cin).1.toNat % 16 > 9 ↔
      i % 10 + j % 10 + cin.toNat > 9 := by
  have hh : (addW (bcd i) (bcd j) cin).2.h =
      decide (15 < (bcd i).toNat % 16 + (bcd j).toNat % 16 + cin.toNat) := rfl
  rw [hh, decide_eq_true_iff, toNat_addW, toNat_bcd hi, toNat_bcd hj]
  omega

/-- The high correction is made exactly when the sum has a third decimal digit: whether or not the binary sum wraps, the
test is that it exceeds 0x99. -/
theorem addW_bcd_high_iff :
    (addW (bcd i) (bcd j) cin).2.c = true ∨ (addW (bcd i) (bcd j) cin).1.toNat > 0x99 ↔
      i + j + cin.toNat > 99 := by
  have hc : (addW (bcd i) (bcd j) cin).2.c = decide (255 < (bcd i).toNat + (bcd j).toNat + cin.toNat) := rfl
  have := cin.toNat_le
  have hwrap (n : Nat) : 255 < n ∨ n % 2 ^ 8 > 0x99 ↔ 0x99 < n := by omega
  rw [hc, decide_eq_true_iff, toNat_addW, hwrap, toNat_bcd hi, toNat_bcd hj]
  omega

theorem decimalAdjust_addW_bcd :
    (decimalAdjust (addW (bcd i) (bcd j) cin).1 (addW (bcd i) (bcd j) cin).2).1 =
      bcd ((i + j + cin.toNat) % 100) := by
  apply BitVec.eq_of_toNat_eq
  have := cin.toNat_le
  rw [toNat_decimalAdjust_of_add rfl, toNat_bcd (Nat.mod_lt _ (by decide))]
  simp only [addW_bcd_low_iff hi hj, addW_bcd_high_iff hi hj]
  rw [toNat_addW, toNat_bcd hi, toNat_bcd hj]
  split_ifs <;> omega

theorem decimalAdjust_addW_bcd_carry :
    (decimalAdjust (addW (bcd i) (bcd j) cin).1 (addW (bcd i) (bcd j) cin).2).2.c =
      decide (i + j + cin.toNat > 99) := by
  rw [decimalAdjust_carry_of_add rfl, decide_eq_decide]
  exact addW_bcd_high_iff hi hj cin

/-- The low correction is made exactly when the units borrow in decimal. -/
theorem subW_bcd_low_iff : (subW (bcd i) (bcd j) cin).2.h = true ↔ i % 10 < j % 10 + cin.toNat := by
  have hh : (subW (bcd i) (bcd j) cin).2.h =
      decide ((bcd i).toNat % 16 < (bcd j).toNat % 16 + cin.toNat) := rfl
  rw [hh, decide_eq_true_iff, toNat_bcd hi, toNat_bcd hj]
  omega

/-- The high correction is made exactly when the difference is below zero. -/
theorem subW_bcd_high_iff : (subW (bcd i) (bcd j) cin).2.c = true ↔ i < j + cin.toNat := by
  have hc : (subW (bcd i) (bcd j) cin).2.c = decide ((bcd i).toNat < (bcd j).toNat + cin.toNat) := rfl
  have := cin.toNat_le
  rw [hc, decide_eq_true_iff, toNat_bcd hi, toNat_bcd hj]
  omega

theorem decimalAdjust_subW_bcd :
    (decimalAdjust (subW (bcd i) (bcd j) cin).1 (subW (bcd i) (bcd j) cin).2).1 =
      bcd (((i : Int) - j - cin.toNat) % 100).toNat := by
  apply BitVec.eq_of_toNat_eq
  have := cin.toNat_le
  rw [toNat_decimalAdjust_of_sub rfl, toNat_bcd (by omega)]
  simp only [subW_bcd_low_iff hi hj, subW_bcd_high_iff hi hj]
  rw [toNat_subW, toNat_bcd hi, toNat_bcd hj]
  split_ifs <;> omega

theorem decimalAdjust_subW_bcd_carry :
    (decimalAdjust (subW (bcd i) (bcd j) cin).1 (subW (bcd i) (bcd j) cin).2).2.c =
      decide (i < j + cin.toNat) := by
  rw [decimalAdjust_carry_of_sub rfl, Bool.eq_iff_iff, decide_eq_true_iff]
  exact subW_bcd_high_iff hi hj cin

end

/-- Settles O10: results and carries by the lemmas above, half-carry and zero by definition. -/
theorem decimalAdjustMeetsDecimalGroundTruth : Obligations.DecimalAdjustMeetsDecimalGroundTruth :=
  fun _ _ cin hi hj =>
    ⟨⟨decimalAdjust_addW_bcd hi hj cin, decimalAdjust_addW_bcd_carry hi hj cin, rfl, rfl⟩,
      decimalAdjust_subW_bcd hi hj cin, decimalAdjust_subW_bcd_carry hi hj cin, rfl, rfl⟩

/-! ### On the machine -/

theorem operand_eq_specOperand (s : State) (src : Src) : s.operand src = specOperand s src := by
  cases src <;> rfl

/-- R160, R185: `DAA` after an operation that writes the accumulator adjusts the operation's result by its flags. -/
theorem daa_after_alu {i : Instr} {op : AluOp} {src : Src} {s t u : State} (hi : i.form = .alu op src)
    (ht : exec i s = .next t) (hu : exec .daa t = .next u) (hop : writesAccumulator op = true) :
    u.a = (decimalAdjust (aluFunction op s.a (specOperand s src) s.f.c).1
      (aluFunction op s.a (specOperand s src) s.f.c).2).1 ∧
    u.f = (decimalAdjust (aluFunction op s.a (specOperand s src) s.f.c).1
      (aluFunction op s.a (specOperand s src) s.f.c).2).2 := by
  obtain rfl := exec_eq_next.1 ht
  obtain rfl := exec_eq_next.1 hu
  simp only [hi, formEffect, aluAccumulator, hop, if_true, operand_eq_specOperand]
  exact ⟨rfl, rfl⟩

/-- Settles O40: the four operations by `daa_after_alu` and the decimal ground truth, `ADD` and `SUB` with no carry
in, `ADC` and `SBC` with the old carry. -/
theorem daaMakesBinaryArithmeticDecimal : Obligations.DaaMakesBinaryArithmeticDecimal := by
  intro i op src s t u x y hi hx hy ha hsrc ht hu
  have hdaa := daa_after_alu hi ht hu
  rw [ha, hsrc] at hdaa
  refine ⟨?add, ?adc, ?sub, ?sbc⟩ <;> rintro rfl <;> obtain ⟨hua, huf⟩ := hdaa rfl <;>
    replace huf := congrArg Flags.c huf
  case add =>
    exact ⟨hua.trans (decimalAdjust_addW_bcd hx hy false), huf.trans (decimalAdjust_addW_bcd_carry hx hy false)⟩
  case adc => exact ⟨hua.trans (decimalAdjust_addW_bcd hx hy _), huf.trans (decimalAdjust_addW_bcd_carry hx hy _)⟩
  case sub =>
    have hres := decimalAdjust_subW_bcd hx hy false
    rw [Bool.toNat_false, Int.natCast_zero, Int.sub_zero] at hres
    exact ⟨hua.trans hres, huf.trans (decimalAdjust_subW_bcd_carry hx hy false)⟩
  case sbc => exact ⟨hua.trans (decimalAdjust_subW_bcd hx hy _), huf.trans (decimalAdjust_subW_bcd_carry hx hy _)⟩

end Sys2Proof.Machine
end

section
/-! SUPPORT. The dispatch (R102 to R111): what a step answers, how far it moves `PC` and what it adds to the counter. -/

namespace Sys2Proof.Machine

open Safety

/-- R68: the opcode byte at `PC` fixes how many bytes are fetched. -/
theorem fetchInstr_length (s : State) : s.fetchInstr.1.length = lengthOfR68 (s.readByte s.pc) := by
  rw [Laws.length_eq_entryLength (fetchInstr_wellFormed s), fetchInstr_opcode, Laws.entryLength_table]

/-- Fetching moves `PC` by the length R68 gives the opcode byte, modulo 2^16. -/
theorem fetchInstr_pc (s : State) :
    s.fetchInstr.2.pc = s.pc + BitVec.ofNat 16 (lengthOfR68 (s.readByte s.pc)) := by
  rw [fetchInstr_state, fetchInstr_length]

/-- The decoder reads one instruction from the bytes at `PC`: the one a step fetches. -/
theorem fetchInstr_of_decode {s : State} {i : Instr} {rest : List Byte}
    (h : decode [s.readByte s.pc, s.readByte (s.pc + 1#16), s.readByte (s.pc + 2#16)] = .ok (i, rest)) :
    s.fetchInstr.1 = i := by
  obtain ⟨rest', hfetch⟩ := fetchInstr_decode s
  rw [h] at hfetch
  cases hfetch
  rfl

/-- R107, D19: the account adds the cost of an opcode the table has an entry for. -/
theorem account_cyc (P : Params) (i : Instr) (s : State) :
    (account P i s).cyc = if table i.form.opcode = none then s.cyc
      else (s.cyc + paramCost P i.form.opcode) % paramFrame P := by
  unfold account
  cases table i.form.opcode <;> rfl

/-- R108: the two costs KG fixes are 4, and each open one is four times a number from 1 to 4. -/
theorem paramCost_mem (P : Params) (op : Byte) : paramCost P op ∈ [4, 8, 12, 16] := by
  unfold paramCost
  split
  · decide
  · generalize P.costCode op = code
    revert code
    decide

/-- Settles O44: `stepWith` and `stepAccesses` both look at the status first. -/
theorem faultedCoreStepsWithoutEffect : Obligations.FaultedCoreStepsWithoutEffect :=
  fun _ hs => ⟨stepWith_fault _ hs, stepAccesses_fault hs⟩

/-- Settles O46: the instruction decoded is the instruction fetched, and `exec` always answers a next state. -/
theorem stepRunsTheDecodedInstruction : Obligations.StepRunsTheDecodedInstruction := by
  intro s i rest hs hdecode _
  obtain rfl := fetchInstr_of_decode hdecode
  rw [← fetchInstr_state, exec_eq]
  exact stepWith_run _ hs

/-- Settles O47: in `FAULT` the state itself, in `RUN` the effect of the instruction fetched and the account. -/
theorem everyStepAnswersNext : Obligations.EveryStepAnswersNext := by
  intro s
  cases hs : s.status with
  | fault => exact ⟨_, stepWith_fault _ hs⟩
  | run => exact ⟨_, stepWith_run _ hs⟩

/-- Settles O48: the fetch moves `PC` by the length, and neither the effect of a mapped instruction nor the account
touches `PC`, the status or the latch. -/
theorem mappedStepAdvancesPCByItsLength : Obligations.MappedStepAdvancesPCByItsLength := by
  intro s hs hmapped
  obtain ⟨hpc, -, hstatus, hlatch⟩ := formEffect_control (fetchInstr_mapped hmapped) s.fetchInstr.2
  refine ⟨_, stepWith_run _ hs, ?_, ?_, ?_⟩
  · rw [account_pc, hpc, fetchInstr_pc]
  · rw [account_status, hstatus, fetchInstr_status, hs]
  · rw [account_faultInfo, hlatch, fetchInstr_faultInfo]

/-- Settles O49: no fetch and no effect touches the counter, so the account alone changes it. -/
theorem stepAddsTheOpcodesCost : Obligations.StepAddsTheOpcodesCost := by
  refine ⟨fun s hs => ⟨_, stepWith_run _ hs, ?_⟩, paramCost_mem _, if_pos (.inl rfl), if_pos (.inr rfl),
    Nat.succ_pos _⟩
  rw [account_cyc, formEffect_cyc, fetchInstr_cyc, fetchInstr_opcode]

end Sys2Proof.Machine
end

section
/-! SUPPORT. The 8-bit loads, stores and copies (R121 to R138): each form is a register write, a memory write, or
one of the two and a move of `HL`, so its frame is the frame of those. -/

namespace Sys2Proof.Machine

open Safety

/-- R60: the bytes of an instruction by its form. -/
theorem encode_of_form {i : Instr} {φ : Form} (h : i.form = φ) : encode i = φ.opcode :: φ.immediates := by
  rw [encode, h]

/-! ### The frames of the state's writes -/

/-- R17, R120: a register write changes that register alone. -/
theorem onlyRegisters_setR8 (s : State) (r : R8) (v : Byte) : OnlyRegisters [r] s (s.setR8 r v) := by
  refine ⟨fun r' hr' => ?_, setR8_f .., setR8_pc .., setR8_cyc .., setR8_status .., setR8_faultInfo ..⟩
  rw [getR8_setR8, if_neg (by simpa using hr')]

theorem getR8_setR8_same (s : State) (r : R8) (v : Byte) : (s.setR8 r v).getR8 r = v := by
  rw [getR8_setR8, if_pos rfl]

/-- R19: a pair write changes the two halves of that pair alone. -/
theorem onlyRegisters_setPair (s : State) (p : Pair) (w : Word) : OnlyRegisters (halves p) s (s.setPair p w) := by
  refine ⟨fun r hr => ?_, setPair_f .., setPair_pc .., setPair_cyc .., setPair_status .., setPair_faultInfo ..⟩
  cases p <;> cases r <;> simp [halves, State.setPair, State.getR8] at hr ⊢

/-- R42: a memory write changes no register. -/
theorem onlyRegisters_writeByte (s : State) (a : Word) (v : Byte) : OnlyRegisters [] s (s.writeByte a v) :=
  ⟨fun r _ => getR8_writeByte s a v r, rfl, rfl, rfl, rfl, rfl⟩

/-- Two changes in a row touch the registers of both. -/
theorem onlyRegisters_trans {rs rs' : List R8} {s t u : State} (hst : OnlyRegisters rs s t)
    (htu : OnlyRegisters rs' t u) : OnlyRegisters (rs ++ rs') s u := by
  obtain ⟨hreg, hf, hpc, hcyc, hstatus, hlatch⟩ := hst
  obtain ⟨hreg', hf', hpc', hcyc', hstatus', hlatch'⟩ := htu
  refine ⟨fun r hr => ?_, hf'.trans hf, hpc'.trans hpc, hcyc'.trans hcyc, hstatus'.trans hstatus,
    hlatch'.trans hlatch⟩
  rw [List.mem_append, not_or] at hr
  exact (hreg' r hr.2).trans (hreg r hr.1)

/-! ### Loads into one register -/

/-- R120: what a load into one register says, whatever byte it loads. -/
theorem setR8_load (s : State) (r : R8) (v : Byte) :
    (s.setR8 r v).getR8 r = v ∧ OnlyRegisters [r] s (s.setR8 r v) ∧ (s.setR8 r v).sp = s.sp ∧
      MemorySame s (s.setR8 r v) :=
  ⟨getR8_setR8_same s r v, onlyRegisters_setR8 s r v, setR8_sp s r v, readByte_setR8 s r v⟩

/-- Settles O17: the effect is one register write. -/
theorem registerCopyMovesOneRegister : Obligations.RegisterCopyMovesOneRegister :=
  fun _ dst src s h => ⟨encode_of_form h, _, exec_of_form h s, setR8_load s dst (s.getR8 src)⟩

/-- Settles O18: the effect is one register write. -/
theorem loadImmediateSetsOneRegister : Obligations.LoadImmediateSetsOneRegister :=
  fun _ dst d8 s h => ⟨encode_of_form h, _, exec_of_form h s, setR8_load s dst d8⟩

/-- Settles O19: the effect is one register write, of a byte read before it. -/
theorem loadThroughHLReadsTheOldAddress : Obligations.LoadThroughHLReadsTheOldAddress :=
  fun _ dst s h => ⟨encode_of_form h, _, exec_of_form h s, setR8_load s dst (s.readByte s.hl)⟩

/-- Settles O20: the effect is one write of the accumulator, of the byte at the address as the spec prints it. -/
theorem accumulatorLoadsReadTheirAddress : Obligations.AccumulatorLoadsReadTheirAddress := by
  intro i m s h
  refine ⟨?_, _, exec_of_form h s, ?_⟩
  · rw [encode_of_form h]
    cases m <;> rfl
  · rw [← address_eq_specAddress]
    exact setR8_load s .a (s.readByte (s.address m))

/-! ### Stores of one byte -/

/-- R120: what a store of one byte says, whatever address and byte. -/
theorem writeByte_store (s : State) (a : Word) (v : Byte) :
    (s.writeByte a v).readByte a = v ∧ MemorySameOutside [a] s (s.writeByte a v) ∧
      OnlyRegisters [] s (s.writeByte a v) ∧ (s.writeByte a v).sp = s.sp := by
  obtain ⟨hread, hother, -⟩ := memoryByteWrittenIsRead s a v
  exact ⟨hread, hother, onlyRegisters_writeByte s a v, rfl⟩

/-- Settles O21: the effect is one memory write. -/
theorem storeThroughHLWritesOneByte : Obligations.StoreThroughHLWritesOneByte :=
  fun _ src s h => ⟨encode_of_form h, _, exec_of_form h s, writeByte_store s s.hl (s.getR8 src)⟩

/-- Settles O22: the effect is one memory write, at the address as the spec prints it. -/
theorem accumulatorStoresWriteTheirAddress : Obligations.AccumulatorStoresWriteTheirAddress := by
  intro i m s h
  refine ⟨?_, _, exec_of_form h s, address_eq_specAddress s m, writeByte_store s (s.address m) s.a⟩
  rw [encode_of_form h]
  cases m <;> rfl

/-! ### Accesses at `HL` that then move it -/

theorem stepHL_of_inc {p : Post} (h : p = .inc) (w : Word) : stepHL p w = w + 1#16 := by rw [h]; rfl

theorem stepHL_of_dec {p : Post} (h : p = .dec) (w : Word) : stepHL p w = w - 1#16 := by rw [h]; rfl

/-- Settles O23: the effect is one memory write at the old `HL`, then a write of `HL`. -/
theorem postModifyStoresMoveHL : Obligations.PostModifyStoresMoveHL := by
  intro i p s h
  obtain ⟨hread, hother, hregs, hsp⟩ := writeByte_store s s.hl s.a
  refine ⟨?_, _, exec_of_form h s, hread, hother, fun hp => stepHL_of_inc hp s.hl, fun hp => stepHL_of_dec hp s.hl,
    onlyRegisters_trans hregs (onlyRegisters_setPair _ .hl (stepHL p s.hl)), hsp⟩
  rw [encode_of_form h]
  cases p <;> rfl

/-- Settles O24: the effect is one write of the accumulator, then a write of `HL`. -/
theorem postModifyLoadsMoveHL : Obligations.PostModifyLoadsMoveHL := by
  intro i p s h
  obtain ⟨ha, hregs, hsp, hmem⟩ := setR8_load s .a (s.readByte s.hl)
  refine ⟨?_, _, exec_of_form h s, ha, fun hp => stepHL_of_inc hp s.hl, fun hp => stepHL_of_dec hp s.hl,
    onlyRegisters_trans hregs (onlyRegisters_setPair _ .hl (stepHL p s.hl)), hsp, hmem⟩
  rw [encode_of_form h]
  cases p <;> rfl

end Sys2Proof.Machine
end

section
/-! SUPPORT. The 16-bit immediate loads, pushes and pops (R151 to R155): what a write of a 16-bit register, two pushes and
two pops say, and a push against a pop. -/

namespace Sys2Proof.Machine

open Safety

/-! ### Writes of a 16-bit register -/

theorem get16_set16 (s : State) (r r' : Reg16) (w : Word) :
    (s.set16 r w).get16 r' = if r' = r then w else s.get16 r' := by
  cases r <;> cases r' <;> rfl

theorem getPair_setPair_same (s : State) (p : Pair) (w : Word) : (s.setPair p w).getPair p = w := by
  cases p <;> rfl

/-- R19, R20: a write of a pair changes its two halves, a write of `SP` no 8-bit register. -/
theorem onlyRegisters_set16 (s : State) (r : Reg16) (w : Word) : OnlyRegisters (halves16 r) s (s.set16 r w) := by
  cases r with
  | bc => exact onlyRegisters_setPair s .bc w
  | de => exact onlyRegisters_setPair s .de w
  | hl => exact onlyRegisters_setPair s .hl w
  | sp => exact ⟨fun r _ => getR8_congr rfl rfl rfl rfl r, rfl, rfl, rfl, rfl, rfl⟩

/-- Settles O25: the effect is one write of a 16-bit register. -/
theorem loadImmediate16SetsTheDestination : Obligations.LoadImmediate16SetsTheDestination := by
  intro i dst d16 s h
  refine ⟨?_, _, exec_of_form h s, (get16_set16 ..).trans (if_pos rfl),
    fun r hr => (get16_set16 ..).trans (if_neg hr), onlyRegisters_set16 s dst d16, readByte_congr (set16_mem ..)⟩
  rw [encode_of_form h]
  cases dst <;> rfl

/-! ### Pushes -/

/-- R152, R153: what two pushes say, whatever the bytes: the two addresses differ at every `SP`. -/
theorem pushByte_pushByte_stores (s : State) (x y : Byte) :
    ((s.pushByte x).pushByte y).sp = s.sp - 2#16 ∧
      ((s.pushByte x).pushByte y).readByte (s.sp - 1#16) = x ∧
      ((s.pushByte x).pushByte y).readByte (s.sp - 2#16) = y ∧
      MemorySameOutside [s.sp - 1#16, s.sp - 2#16] s ((s.pushByte x).pushByte y) ∧
      OnlyRegisters [] s ((s.pushByte x).pushByte y) := by
  obtain ⟨-, hread⟩ := pushByte_pushByte s x y
  refine ⟨sub_one_sub_one s.sp, ?_, ?_, fun a ha => ?_, fun r _ => ?_, rfl, rfl, rfl, rfl, rfl⟩
  · simp [hread]
  · simp [hread]
  · simp only [List.mem_cons, List.not_mem_nil, or_false, not_or] at ha
    rw [hread, if_neg ha.2, if_neg ha.1]
  · rw [getR8_pushByte, getR8_pushByte]

/-- Settles O26: the effect is two pushes, of the high byte and of the low byte. -/
theorem pushPairStoresHighThenLow : Obligations.PushPairStoresHighThenLow := by
  intro i src s h
  obtain ⟨hsp, hhi, hlo, hother, hregs⟩ :=
    pushByte_pushByte_stores s (hiByte (s.getPair src)) (loByte (s.getPair src))
  refine ⟨?_, _, exec_of_form h s, hsp, hhi, hlo, by rw [dataAccesses, h], hother, hregs⟩
  rw [encode_of_form h]
  cases src <;> rfl

/-- R12, R13: the flag byte's low nibble is zero, because no flag is kept there. -/
theorem toByte_and_lowNibble (f : Flags) : f.toByte &&& 0x0F#8 = 0#8 := by
  have hmask : f.toByte = f.toByte &&& 0xF0#8 := by rw [← toByte_fromByte, fromByte_toByte]
  rw [hmask, BitVec.and_assoc]
  exact BitVec.and_zero

/-- Settles O27: the effect is two pushes, of the accumulator and of the flag byte. -/
theorem pushAFStoresAccumulatorThenFlags : Obligations.PushAFStoresAccumulatorThenFlags := by
  intro i s h
  obtain ⟨hsp, ha, hf, hother, hregs⟩ := pushByte_pushByte_stores s s.a s.f.toByte
  exact ⟨encode_of_form h, _, exec_of_form h s, hsp, ha, hf, hf ▸ toByte_and_lowNibble s.f, by rw [dataAccesses, h],
    hother, hregs⟩

/-! ### Pops -/

/-- R154: a pop of a pair raises `SP` by two and writes the pair once, from the bytes at `SP` and `SP + 1`. -/
theorem popPair_eq (dst : Pair) (s : State) :
    popPair dst s =
      ({ s with sp := s.sp + 2#16 } : State).setPair dst (makeAddress (s.readByte (s.sp + 1#16)) (s.readByte s.sp)) := by
  rw [popPair, popByte_popByte, popByte_value]

/-- R155: a pop of `AF` writes `SP`, the flags and the accumulator. -/
theorem popAF_eq (s : State) :
    popAF s = { s with
      sp := s.sp + 2#16, f := Flags.fromByte (s.readByte s.sp), a := s.readByte (s.sp + 1#16) } := by
  rw [popAF, popByte_popByte, popByte_value]

/-- Settles O28: the effect is a move of `SP`, then a write of the pair whose halves are the two bytes read. -/
theorem popPairLoadsLowThenHigh : Obligations.PopPairLoadsLowThenHigh := by
  intro i dst s h
  have hpair : (popPair dst s).getPair dst = makeAddress (s.readByte (s.sp + 1#16)) (s.readByte s.sp) := by
    rw [popPair_eq, getPair_setPair_same]
  have hlo : loByte ((popPair dst s).getPair dst) = s.readByte s.sp := by rw [hpair, loByte_makeAddress]
  have hhi : hiByte ((popPair dst s).getPair dst) = s.readByte (s.sp + 1#16) := by rw [hpair, hiByte_makeAddress]
  refine ⟨?encoding, popPair dst s, exec_of_form h s, ?sp, hlo, hhi, ?accesses, ?registers, ?memory⟩
  case encoding =>
    rw [encode_of_form h]
    cases dst <;> rfl
  case sp => rw [popPair_eq, setPair_sp]
  case accesses => rw [hlo, hhi, dataAccesses, h]; rfl
  case registers =>
    rw [popPair_eq]
    exact onlyRegisters_trans (onlyRegisters_set16 s .sp (s.sp + 2#16)) (onlyRegisters_setPair ..)
  case memory =>
    rw [popPair_eq]
    exact readByte_congr (setPair_mem ..)

/-- Settles O29: the effect is one write of `SP`, the flags and the accumulator. -/
theorem popAFLoadsFlagsThenAccumulator : Obligations.PopAFLoadsFlagsThenAccumulator := by
  intro i s h
  obtain ⟨hregs, -⟩ := onlyRegisters_setR8 s .a (s.readByte (s.sp + 1#16))
  refine ⟨encode_of_form h, _, (exec_of_form h s).trans (congrArg _ (popAF_eq s)), rfl, rfl, rfl, ?accesses, hregs,
    ⟨rfl, rfl, rfl, rfl⟩, fun _ => rfl⟩
  case accesses => rw [dataAccesses, h]; rfl

/-! ### A push and then a pop -/

theorem word_ext_halves {v w : Word} (hlo : loByte v = loByte w) (hhi : hiByte v = hiByte w) : v = w := by
  rw [← makeAddress_halves v, hlo, hhi, makeAddress_halves]

/-- Settles O30 from O26 to O29: the pop reads the two addresses the push wrote, because `SP` is two lower between
them, and the flag byte gives the four flags back. -/
theorem pushThenPopCopiesAndRestoresSP : Obligations.PushThenPopCopiesAndRestoresSP := by
  constructor
  · intro i j src dst s t u hi hj ht hu
    obtain ⟨-, t', ht', hsp, hhi, hlo, -⟩ := pushPairStoresHighThenLow i src s hi
    obtain ⟨-, u', hu', hsp', hlo', hhi', -⟩ := popPairLoadsLowThenHigh j dst t hj
    obtain rfl : t' = t := Host.Outcome.next.inj (ht'.symm.trans ht)
    obtain rfl : u' = u := Host.Outcome.next.inj (hu'.symm.trans hu)
    rw [hsp] at hsp' hlo' hhi'
    rw [sub_two_add_one] at hhi'
    exact ⟨word_ext_halves (hlo'.trans hlo) (hhi'.trans hhi), hsp'.trans (BitVec.sub_add_cancel ..)⟩
  · intro i j s t u hi hj ht hu
    obtain ⟨-, t', ht', hsp, ha, hf, -⟩ := pushAFStoresAccumulatorThenFlags i s hi
    obtain ⟨-, u', hu', hsp', ha', hf', -⟩ := popAFLoadsFlagsThenAccumulator j t hj
    obtain rfl : t' = t := Host.Outcome.next.inj (ht'.symm.trans ht)
    obtain rfl : u' = u := Host.Outcome.next.inj (hu'.symm.trans hu)
    rw [hsp] at hsp' ha' hf'
    rw [sub_two_add_one] at ha'
    rw [hf] at hf'
    exact ⟨ha'.trans ha, hf'.trans (fromByte_toByte s.f), hsp'.trans (BitVec.sub_add_cancel ..)⟩

end Sys2Proof.Machine
end

section
/-! SUPPORT. The ALU instructions (R161 to R185): an instruction of the form writes `A` and `F` alone, so each statement
is one fact about its ALU function. -/

namespace Sys2Proof.Machine

open Safety

/-- R160(d): an update of `A` and `F` leaves every other element. -/
theorem onlyAccumulatorAndFlags_update (s : State) (v : Byte) (f : Flags) :
    OnlyAccumulatorAndFlags s { s with a := v, f := f } := by
  refine ⟨fun r hr => ?_, rfl, ⟨rfl, rfl, rfl, rfl⟩, fun _ => rfl⟩
  cases r with
  | a => exact absurd List.mem_cons_self hr
  | b | c | d | e | h | l => rfl

/-- R160(f) against R69's bit patterns: the operation code is the field `y` of the opcode. -/
theorem encode_alu {i : Instr} {op : AluOp} {src : Src} (h : i.form = .alu op src) :
    encode i = aluBytes op.code.toNat src := by
  rw [encode_of_form h]
  cases src with
  | reg r => cases op <;> cases r <;> rfl
  | atHL | imm d8 => cases op <;> rfl

/-! ### The ALU functions on bytes, result and flags together -/

theorem addW_byte (a b : Byte) (cin : Bool) :
    addW a b cin = (a + b + BitVec.ofNat 8 cin.toNat,
      ⟨decide (a + b + BitVec.ofNat 8 cin.toNat = 0#8), false, decide (a.toNat % 16 + b.toNat % 16 + cin.toNat > 15),
        decide (a.toNat + b.toNat + cin.toNat > 255)⟩) := by
  rw [← addW_result]
  rfl

theorem addW_byte_false (a b : Byte) :
    addW a b false = (a + b, ⟨decide (a + b = 0#8), false, decide (a.toNat % 16 + b.toNat % 16 > 15),
      decide (a.toNat + b.toNat > 255)⟩) := by
  simpa using addW_byte a b false

theorem subW_byte (a b : Byte) (cin : Bool) :
    subW a b cin = (a - b - BitVec.ofNat 8 cin.toNat,
      ⟨decide (a - b - BitVec.ofNat 8 cin.toNat = 0#8), true, decide (a.toNat % 16 < b.toNat % 16 + cin.toNat),
        decide (a.toNat < b.toNat + cin.toNat)⟩) := by
  rw [← subW_result]
  rfl

theorem subW_byte_false (a b : Byte) :
    subW a b false = (a - b, ⟨decide (a - b = 0#8), true, decide (a.toNat % 16 < b.toNat % 16),
      decide (a.toNat < b.toNat)⟩) := by
  simpa using subW_byte a b false

/-! ### Operations that write the accumulator -/

/-- R160: an operation that writes the accumulator puts its function's result in `A` and the four flags, `Z` that of the
result, in `F`. -/
theorem alu_writes_result {i : Instr} {op : AluOp} {src : Src} {s : State} {res : Byte} {n hc c : Bool}
    (h : i.form = .alu op src) (hop : writesAccumulator op = true)
    (hres : aluFunction op s.a (specOperand s src) s.f.c = (res, ⟨decide (res = 0#8), n, hc, c⟩)) :
    encode i = aluBytes op.code.toNat src ∧
    ∃ t, exec i s = .next t ∧ t.a = res ∧ t.f = ⟨decide (t.a = 0#8), n, hc, c⟩ ∧ OnlyAccumulatorAndFlags s t := by
  have heffect : formEffect (.alu op src) s = { s with a := res, f := ⟨decide (res = 0#8), n, hc, c⟩ } := by
    simp only [formEffect, aluAccumulator, operand_eq_specOperand, hres, hop, if_true]
  exact ⟨encode_alu h, _, (exec_of_form h s).trans (congrArg _ heffect), rfl, rfl,
    onlyAccumulatorAndFlags_update ..⟩

/-- Settles O31: the function is `addW` with no carry in. -/
theorem addSetsAccumulatorAndFlags : Obligations.AddSetsAccumulatorAndFlags :=
  fun _ _ _ h => alu_writes_result h rfl (addW_byte_false ..)

/-- Settles O32: the function is `addW` with the old carry. -/
theorem adcSetsAccumulatorAndFlags : Obligations.AdcSetsAccumulatorAndFlags :=
  fun _ _ _ h => alu_writes_result h rfl (addW_byte ..)

/-- Settles O33: the function is `subW` with no borrow in. -/
theorem subSetsAccumulatorAndFlags : Obligations.SubSetsAccumulatorAndFlags :=
  fun _ _ _ h => alu_writes_result h rfl (subW_byte_false ..)

/-- Settles O34: the function is `subW` with the old carry. -/
theorem sbcSetsAccumulatorAndFlags : Obligations.SbcSetsAccumulatorAndFlags :=
  fun _ _ _ h => alu_writes_result h rfl (subW_byte ..)

/-- Settles O35: the function is `andByte`, whose formula R84 gives. -/
theorem andSetsAccumulatorAndFlags : Obligations.AndSetsAccumulatorAndFlags := fun _ _ _ h =>
  have ⟨hand, _, _⟩ := bitwiseOperationsFollowTheirFormulas ..
  alu_writes_result h rfl hand

/-- Settles O36: the function is `xorByte`, whose formula R86 gives. -/
theorem xorSetsAccumulatorAndFlags : Obligations.XorSetsAccumulatorAndFlags := fun _ _ _ h =>
  have ⟨_, _, hxor⟩ := bitwiseOperationsFollowTheirFormulas ..
  alu_writes_result h rfl hxor

/-- Settles O37: the function is `orByte`, whose formula R85 gives. -/
theorem orSetsAccumulatorAndFlags : Obligations.OrSetsAccumulatorAndFlags := fun _ _ _ h =>
  have ⟨_, hor, _⟩ := bitwiseOperationsFollowTheirFormulas ..
  alu_writes_result h rfl hor

/-! ### Compare and `DAA` -/

/-- R92, R182: the zero flag of a comparison is equality of the operands. -/
theorem subW_flags_eq_compare (a b : Byte) :
    (subW a b false).2 =
      ⟨decide (a = b), true, decide (a.toNat % 16 < b.toNat % 16), decide (a.toNat < b.toNat)⟩ := by
  have hz : (subW a b false).2.z = decide (a = b) := by
    rw [Bool.eq_iff_iff, decide_eq_true_iff, subW_zero_iff]
  rw [← hz]
  rfl

/-- R182: compare keeps the accumulator and takes the flags of a subtraction. -/
theorem formEffect_cp (src : Src) (s : State) :
    formEffect (.alu .cp src) s = { s with f := (subW s.a (specOperand s src) false).2 } := by
  rw [← operand_eq_specOperand]
  rfl

/-- Settles O38: `F` alone is written, from a subtraction. -/
theorem compareSetsFlagsOnly : Obligations.CompareSetsFlagsOnly :=
  fun _ src s h => ⟨encode_alu h, _, (exec_of_form h s).trans (congrArg _ (formEffect_cp src s)), rfl,
    subW_flags_eq_compare .., onlyAccumulatorAndFlags_update ..⟩

/-- Settles O39: the corrections of `decimalAdjust` as numbers, by the old `N`; the zero, subtract and half-carry flags
by definition. -/
theorem daaCorrectsTheAccumulator : Obligations.DaaCorrectsTheAccumulator :=
  fun _ s h => ⟨encode_of_form h, _, exec_of_form h s,
    fun hn => ⟨toNat_decimalAdjust_of_add hn s.a, decimalAdjust_carry_of_add hn s.a⟩,
    fun hn => ⟨toNat_decimalAdjust_of_sub hn s.a, decimalAdjust_carry_of_sub hn s.a⟩,
    rfl, rfl, rfl, onlyAccumulatorAndFlags_update ..⟩

end Sys2Proof.Machine
end

section
/-! SUPPORT. The fatal stop (60_exceptions.md R201 to R205): what a byte with no table entry does to a running core, that
no other byte stops it, and that the stop is kept. -/

namespace Sys2Proof.Machine

/-- R203: taking the exception keeps every 8-bit register. -/
@[simp] theorem getR8_raiseUnmappedOpcode (op : Byte) (s : State) (r : R8) :
    (raiseUnmappedOpcode op s).getR8 r = s.getR8 r := getR8_congr rfl rfl rfl rfl r

@[simp] theorem readByte_raiseUnmappedOpcode (op : Byte) (s : State) (a : Word) :
    (raiseUnmappedOpcode op s).readByte a = s.readByte a := readByte_congr rfl a

/-- R70, R204: a byte with no table entry is fetched as the unmapped instruction, and it alone. -/
theorem fetchInstr_of_none {s : State} (h : table (s.readByte s.pc) = none) :
    s.fetchInstr = (.unmapped (s.readByte s.pc), { s with pc := s.pc + 1#16 }) := by
  unfold State.fetchInstr
  simp only [fetch8_value, h]
  rfl

/-- D19: an instruction whose opcode has no table entry costs nothing. -/
theorem account_of_none {i : Instr} (h : table i.form.opcode = none) (P : Params) (s : State) : account P i s = s := by
  simp only [account, h]

/-- R202, R203: the step on a byte with no table entry takes the exception with `PC` one past that byte. -/
theorem step_of_none {s : State} (hrun : s.status = .run) (h : table (s.readByte s.pc) = none) :
    step s = .next (raiseUnmappedOpcode (s.readByte s.pc) { s with pc := s.pc + 1#16 }) := by
  rw [step, stepWith_run _ hrun, fetchInstr_of_none h, account_of_none (by exact h)]
  rfl

/-- R204: the opcode fetch is the only access of a step on a byte with no table entry. -/
theorem stepAccesses_of_none {s : State} (hrun : s.status = .run) (h : table (s.readByte s.pc) = none) :
    stepAccesses s = [.read s.pc (s.readByte s.pc)] := by
  rw [stepAccesses_run hrun, fetchInstr_of_none h]
  rfl

/-- R111, R205: a run from `FAULT` stays where it is, by induction on the number of steps. -/
theorem run_of_fault {s : State} (h : s.status = .fault) (k : Nat) : Host.Core.run Sys2Proof.core k s = .next s := by
  induction k with
  | zero => rfl
  | succ k ih => exact run_succ_eq_next.2 ⟨s, stepWith_fault hardwareParams h, ih⟩

/-- Settles O41: the status and the latch are the two elements `raiseUnmappedOpcode` writes. -/
theorem unmappedTakesTheFatalStop : Obligations.UnmappedTakesTheFatalStop := fun _ op s h =>
  ⟨encode_of_form h, raiseUnmappedOpcode op s, exec_of_form h s, rfl, rfl, rfl, rfl, rfl, rfl,
    fun r _ => getR8_raiseUnmappedOpcode op s r, readByte_raiseUnmappedOpcode op s⟩

/-- Settles O42: the fetch takes the opcode byte alone and the account adds nothing, so the step is the exception. -/
theorem unmappedOpcodeStepIsPrecise : Obligations.UnmappedOpcodeStepIsPrecise :=
  fun _ hrun h => ⟨step_of_none hrun h, stepAccesses_of_none hrun h⟩

/-- Settles O43: on a byte with no table entry the step takes the exception (O42), on every other it keeps the
status (O48). -/
theorem onlyUnmappedOpcodesStopTheCore : Obligations.OnlyUnmappedOpcodesStopTheCore := by
  intro s t hrun hstep
  by_cases h : table (s.readByte s.pc) = none
  · have hstop := step_of_none hrun h
    rw [hstep] at hstop
    cases hstop
    exact iff_of_true rfl h
  · obtain ⟨u, hu, -, hstatus, -⟩ := mappedStepAdvancesPCByItsLength s hrun h
    rw [hstep] at hu
    cases hu
    exact iff_of_false (by simp [hstatus]) h

/-- Settles O45: a run from `FAULT` by `run_of_fault`; reset constructs the core anew (R220), in `RUN` with no latch. -/
theorem faultIsKeptUntilReset : Obligations.FaultIsKeptUntilReset :=
  ⟨fun k _ h => run_of_fault h k, fun _ _ => ⟨rfl, rfl⟩⟩

end Sys2Proof.Machine
end

section
/-! SUPPORT. Reset (R220, R221): construction on a memory, and the statements about it. -/

namespace Sys2Proof.Machine

open Safety

/-- R114, R220: construction starts the counter at zero, in `RUN` with an empty latch, so a canonical memory is all the
invariant asks of it, whatever `RESET_STATE` is. -/
theorem construct_inv (r : ResetState) {m : Memory} (h : Memory.wf m) : Inv (State.construct r m) :=
  ⟨h, Nat.succ_pos _, latchConsistent_of_run rfl rfl⟩

/-- R221: every register reads zero after the default reset; each half of a pair is a half of the word zero. -/
theorem getR8_reset (r : R8) : State.reset.getR8 r = 0#8 := by
  cases r <;> rfl

/-- R41: the memory of the default reset lists no cell, so every address reads as an unlisted one. -/
theorem readByte_reset (a : Word) : State.reset.readByte a = Config.unlistedByte :=
  Memory.read_nil a.toNat

/-- Settles O57: reset is construction on the memory as it stands, and it is the core's answer to the host's reset. -/
theorem resetSetsEveryElementButMemory : Obligations.ResetSetsEveryElementButMemory :=
  fun _ _ => ⟨rfl, rfl⟩

/-- Settles O58: the reset state is constructed on the empty memory, which is canonical. -/
theorem resetStateMeetsTheInvariant : Obligations.ResetStateMeetsTheInvariant :=
  construct_inv ResetState.default Memory.wf_nil

/-- Settles O59: `F`, `SP`, `PC` and the control elements are those `ResetState.default` and construction name. -/
theorem defaultResetIsAllZero : Obligations.DefaultResetIsAllZero :=
  ⟨getR8_reset, rfl, rfl, rfl, rfl, rfl, rfl, readByte_reset⟩

end Sys2Proof.Machine
end
